-- ==== Sys2Proof/Word.lean ====
section
/-!
DEFINITION. The words and small data types of the SN4108: bytes and nibbles, the departure record of R1, a copy
of Record Memory (R114), and the names the manual gives to fixed sets of values.
-/

namespace Sys2Proof

/-- One byte of the staging area, of a transfer or of a frame. -/
abbrev Byte := BitVec 8

/-- Half a byte, as it travels on D7..D4 in width 4 (R149). -/
abbrev Nibble := BitVec 4

/-- The two banks of Record Memory. -/
inductive Bank
  | A
  | B
  deriving DecidableEq, Repr, Inhabited

/-- The condition of a service (R1). -/
inductive Status
  | planned
  | boarding
  | departed
  | cancelled
  deriving DecidableEq, Repr, Inhabited

/-- A record body, R1. An absent field is `none`; phrase, platform and attribute numbers are plain numbers. -/
structure RecordBody where
  key : Nat
  scheduled : Nat
  expected : Option Nat
  platform : Option Nat
  status : Status
  held : Bool
  carried : Bool
  destination : Nat
  via : Option Nat
  attributes : List Nat
  amendments : Nat
  deriving DecidableEq, Repr, Inhabited

/-- What a copy holds (R114). `unknown` is the state of every copy after a full reset (R133): some contents that
the manual does not give (log 6). -/
inductive Contents
  | unknown
  | free
  | body (b : RecordBody)
  deriving DecidableEq, Repr

/-- The check condition of a copy (R114). -/
inductive CheckCondition
  | good
  | correctable
  | uncorrectable
  deriving DecidableEq, Repr

/-- One copy: one slot of one bank (R114). -/
structure Copy where
  contents : Contents
  check : CheckCondition
  stuck : Bool
  deriving DecidableEq, Repr

/-- The three effects of a disturbance (R116), which CHECK TEST plants by name (R117). -/
inductive DisturbanceKind
  | correctable
  | uncorrectable
  | stuck
  deriving DecidableEq, Repr

/-- A point in the departure order (R12): a service minute and a key. -/
structure Position where
  time : Nat
  key : Nat
  deriving DecidableEq, Repr

/-- A directory entry (R7). -/
structure Entry where
  key : Nat
  slot : Nat
  effective : Nat
  platform : Option Nat
  status : Status
  held : Bool
  destination : Nat
  via : Option Nat
  deriving DecidableEq, Repr

end Sys2Proof
end

