-- ==== Sys2Proof/Config.lean ====
section
/-!
DEFINITION. What the part fixes (sizes and limits the manual states) and the one free value of the model.
-/

namespace Sys2Proof.Config

/-- Slots of one bank (00_scope.md, Slots; R114). -/
def slots : Nat := 256

/-- The last service minute (R6, R58). -/
def lastMinute : Nat := 2879

/-- The minutes of one service day (R65). -/
def dayMinutes : Nat := 1440

/-- The highest phrase number, and the highest platform number (00_scope.md, Conventions). -/
def lastPhrase : Nat := 63

/-- The count at which the silence count stays (R158). -/
def silenceLimit : Nat := 1023

/-- FREE VALUE (log 6): the record body that a read finds in a copy whose contents the manual does not give
(unknown since a full reset, R133) or gives as free (R114). No rule of the manual lets a read reach such a copy for a
live record, so nothing is chosen here: the value is whatever it is, one for each copy. -/
opaque unstatedBody : Bank → Nat → RecordBody

end Sys2Proof.Config
end

