-- ==== Sys2Proof/Syntax.lean ====
section
/-!
DEFINITION. The commands and events of the SN4108: one constructor per row of spec/opcode_table.json. The table gives
its rows no bits; the operands are what the rows' rules name.
-/

namespace Sys2Proof

/-- The four holders a second tick is delivered to (R56). The View Engine's share is named in two ways (log 7): with
`viewEngine` a view whose refresh timer expires starts its pass, count claim and all, within the tick; with
`viewTimers` the tick moves the timers alone, and the pass of a timer brought to 0 is the row REFRESH_EXPIRY, so that
other claims may come between the tick and that pass's count claim (R13, R78). -/
inductive TickHolder
  | serviceClock
  | controlPort
  | viewEngine
  | viewTimers
  | boardLinks
  deriving DecidableEq, Repr

/-- How far a step that holds a grant or a search goes (DESIGN CHOICE, log 4). The steps of the table are whole; R119
and R79 let the Directory serve other claims between the accesses of one grant, between the taking of a view and the
first access of its composition, and between the claims of one search, and `firstPart` ends the step at that place, to
be taken up by the next step of the same row. -/
inductive Extent
  | whole
  | firstPart
  deriving DecidableEq, Repr

/-- Which of RETIRE's two claims a step of its row serves (R35, log 4): `whole`, the row as the table lists it and the
default, serves both at acceptance; `lookup` is the acceptance with the lookup claim, after which RETIRE is in flight;
`remove` is the remove claim of a RETIRE in flight, and no strobe. -/
inductive RetirePart
  | whole
  | lookup
  | remove
  deriving DecidableEq, Repr

/-- Which edges of its strobe a step of a read row takes (R148, R153, log 3): `whole`, the row as the table lists it
and the default, takes both; in width 8 `fall` is the falling edge, which samples the byte, and `rise` the rising
edge, which settles the read by that sample, so that a command's completion or any other event may come between the
two. -/
inductive StrobePart
  | whole
  | fall
  | rise
  deriving DecidableEq, Repr

/-- The rows of the opcode table. -/
inductive Instr
  -- record commands and their grants (02_record_commands.md)
  | add
  | addGrant (x : Extent)
  | amend
  | amendGrant (x : Extent)
  | retire (x : RetirePart := .whole)
  | fetch
  | fetchRank
  | findNext
  | fetchGrant (x : Extent)
  | keepalive
  -- phrase commands (03_phrase_table.md)
  | definePhrase
  | retirePhrase
  | readPhrase
  -- view commands (05_views.md)
  | configureView
  | startView
  | stopView
  | shiftView
  | readView
  -- clock (04_service_clock_and_retirement.md)
  | setClock
  | newDay
  | newDayVisit
  | rebaseGrant (x : Extent)
  -- store (07_record_memory_and_store_states.md)
  | setStoreState
  | clear
  | storeStateGrant
  | readState
  | checkTest
  | checkTestGrant
  -- parameters (09_control_port.md)
  | setParameter
  | readParameter
  -- events (10_events_and_captures.md)
  | readEvents
  | clearEvents
  | setMasks
  | readCapture
  | clearCapture
  -- port (09_control_port.md)
  | restart
  | pointer (bits : BitVec 7)
  | width8
  | width4
  | badCommand (byte : Byte)
  | stagingWrite (byte : Byte)
  | stagingRead (x : StrobePart := .whole)
  | nibbleTimeout
  -- time and retirement (04)
  | secondTick (order : List TickHolder)
  | minuteAdvance
  | retirementStep
  | stale
  -- views and composer (05)
  | refreshExpiry (view : Fin 4)
  | compositionStart (x : Extent)
  | composerGrant (x : Extent)
  -- rebuild, clearing, sweep (07, 08)
  | copierStep (x : Extent)
  | clearingStep
  | sweepTimerExpiry
  | sweepStep (x : Extent)
  | disturbance (bank : Bank) (slot : Nat) (kind : DisturbanceKind)
  -- links (06_board_links.md)
  | frameEnd (link : Fin 4)
  | take (link : Fin 4)
  | linkLost (link : Fin 4)
  | advanceRise (link : Fin 4)
  | advanceRelease (link : Fin 4)
  | linkCombinationReset
  -- resets, strobes (07, 09)
  | resetN
  | powerOn
  | firstNibble (sel rw : Bool) (lines : Byte)
  | statusRead (x : StrobePart := .whole)
  | resetNRelease
  deriving DecidableEq, Repr

/-- The command bytes of R171 that name a command (POINTER, 0x80..0xFF, apart). -/
def assignedCommandBytes : List Nat :=
  [0x01, 0x02, 0x03, 0x04, 0x05, 0x06, 0x08, 0x09, 0x0A] ++
  [0x10, 0x11, 0x12, 0x13, 0x14, 0x18, 0x19, 0x1A] ++
  [0x20, 0x21, 0x22, 0x28, 0x29, 0x30, 0x31, 0x32, 0x33, 0x34] ++
  [0x3F, 0x40, 0x41]

end Sys2Proof
end

