-- ==== Sys2Proof/Decode.lean ====
section
/-!
DEFINITION. Decoding a word of the opcode table. The table gives none of its rows any bits, so no word spells a
command; the command bytes of R171 are read by the Control Port (Machine/Port.lean).
-/

namespace Sys2Proof

/-- The command that the word `w` of `nbits` bits spells by the table's bits: none, since the table gives none. -/
def decodeTableWord (_nbits _w : Nat) : Option Instr := none

end Sys2Proof
end

