-- ==== Sys2Proof/Machine/State.lean ====
section
/-!
DEFINITION. The state of the SN4108, block by block as 00_scope.md lists the blocks, and its value after a full reset.
What is computed from a field and not stored a second time is said in log 13.
-/

namespace Sys2Proof.Machine

/-! ## Names -/

/-- Result codes (R172). -/
inductive ResultCode
  | ok
  | badCommand
  | fieldRange
  | duplicateKey
  | unknownKey
  | tableFull
  | notServing
  | unknownPhrase
  | phraseRetiring
  | statusFinal
  | noSuchRank
  | endOfOrder
  | viewBusy
  | badTransition
  | clockUnset
  | tooEarly
  | withdrawn
  deriving DecidableEq, Repr

/-- The eight store states (R129). -/
inductive StoreState
  | uninit
  | clearing
  | ready
  | single
  | mirrored
  | rebuilding
  | degraded
  | failed
  deriving DecidableEq, Repr

/-- The twelve event kinds (R162). -/
inductive EventKind
  | corrected
  | repaired
  | withdrawn
  | bankLost
  | storeFailed
  | rebuildDone
  | rebuildFailed
  | stale
  | overrun
  | clockLimit
  | linkLost
  | phraseFreed
  deriving DecidableEq, Repr

/-- The requester or source whose access raised an event (R167). -/
inductive Operation
  | command
  | compose
  | sweep
  | rebuild
  | port
  | link
  deriving DecidableEq, Repr

/-- The four requesters of the Record Memory port, in the arbiter's order (R118). -/
inductive Requester
  | command
  | composer
  | copier
  | sweep
  deriving DecidableEq, Repr

/-! ## Control Port -/

/-- The width of the port (R148). -/
inductive Width
  | eight
  | four
  deriving DecidableEq, Repr

/-- Which way the pointer moves (R148). -/
inductive Direction
  | increment
  | decrement
  deriving DecidableEq, Repr

/-- What the first strobe of a pair left (R149): the high nibble written, or the byte sampled for a read together
with whether BUSY was set at the sample. -/
inductive PendingHalf
  | write (high : Nibble)
  | read (sample : Byte) (busy : Bool)
  deriving DecidableEq, Repr

/-- The pending nibble with the SEL level of its strobe; its RW level is the kind of its half (R148, R149). -/
structure PendingNibble where
  sel : Bool
  half : PendingHalf
  deriving DecidableEq, Repr

/-- What the part drove on the data lines at the last strobe taken (R149, R161): nothing, a byte on D7..D0 in
width 8, a nibble on D7..D4 in width 4. -/
inductive Driven
  | released
  | byte (b : Byte)
  | nibble (n : Nibble)
  deriving DecidableEq, Repr

/-- The parameters P0..P10 (R159). -/
structure Params where
  overdueGrace : Nat
  departedLinger : Nat
  cancelledLinger : Nat
  silenceLimit : Nat
  staleAction : Nat
  noticePhrase : Nat
  sweepEnable : Nat
  sweepInterval : Nat
  sweepFirst : Nat
  sweepLast : Nat
  resetLinks : BitVec 4
  deriving DecidableEq, Repr

/-- What a width-8 read sampled at the falling edge of its strobe, while the strobe is low (R152, R153): SEL, the byte,
and whether BUSY was set. -/
structure ReadSample where
  sel : Bool
  byte : Byte
  busy : Bool
  deriving DecidableEq, Repr

/-- The Control Port (R148). The nibble phase, the nibble timer and BUSY are computed (log 13). -/
structure ControlPort where
  width : Width
  pendingNibble : Option PendingNibble
  lowRead : Option ReadSample
  staging : Vector Byte 32
  pointer : BitVec 5
  direction : Direction
  lastResult : ResultCode
  silence : Nat
  stale : Bool
  params : Params
  driven : Driven
  deriving DecidableEq, Repr

/-! ## Command Unit -/

/-- How a fetch command finds its record (R36 to R39). -/
inductive Find
  | byKey (key : Nat)
  | byRank (rank : Nat)
  | after (pos : Position)
  deriving DecidableEq, Repr

/-- NEW DAY in flight: the minute set at acceptance, the visit position, the entry selected for rebase (key and
slot) while its grant is awaited, and the four counts (R65 to R68). -/
structure NewDay where
  minute : Nat
  visit : Position
  rebase : Option (Nat × Nat)
  retired : Nat
  rebased : Nat
  clamped : Nat
  withdrawn : Nat
  deriving DecidableEq, Repr

/-- The command in flight with the key, slot and rank its latest claim answered (R42); the result that claim answered
and what the command waits for are computed (Machine/Arbiter.lean, log 13). Its other inputs stand in the staging
area, which BUSY keeps as it was (R153). `refetch` is a fetch command whose attempt has failed and which waits for the
find claim of its next, with the key and slot that its latest find claim gave (R36, log 4). -/
inductive InFlight
  | add (key slot : Nat)
  | amend (key slot rank : Nat)
  | retire (key slot rank : Nat)
  | fetch (find : Find) (key slot rank : Nat)
  | refetch (find : Find) (key slot : Nat)
  | newDay (day : NewDay)
  | storeState (target : StoreState) (bank : Bank)
  | checkTest (bank : Bank) (slot : Nat) (kind : DisturbanceKind)
  deriving DecidableEq, Repr

/-! ## Directory -/

/-- The Directory: open or closed (R14), and the departure order (R10). The key map (R9) and the free-slot set (R11)
are computed from it (log 13). -/
structure Directory where
  isOpen : Bool
  order : List Entry
  deriving DecidableEq, Repr

/-! ## Record Memory and Store Controller -/

/-- Record Memory: each bank as a list of (slot, copy) in canonical form (Machine/Ops.lean, `bankWf`). A slot that is
not listed holds `resetCopy`. -/
structure RecordMemory where
  bankA : List (Nat × Copy)
  bankB : List (Nat × Copy)
  deriving DecidableEq, Repr

/-- What every copy holds after a full reset (R133): unknown contents, GOOD, not stuck. -/
def resetCopy : Copy := { contents := .unknown, check := .good, stuck := false }

/-- How far a grant has come (log 4): begun; the copier's or the sweep's slot query answered (free, or the key);
the body read or written, before the claim that ends the grant. `clamped` is NEW DAY's mark of R67. -/
inductive Progress
  | begun
  | queried (live : Option Nat)
  | accessed (body : RecordBody) (clamped : Bool)
  deriving DecidableEq, Repr

/-- A grant: its requester, the slot it covers (none for SET STORE STATE), the key of the entry that led there
(0 for none), and how far it has come (R118, R119). -/
structure Grant where
  holder : Requester
  slot : Option Nat
  key : Nat
  progress : Progress
  deriving DecidableEq, Repr

/-- The requests waiting for the port, at most one a requester (R118). -/
structure Waiting where
  command : Bool
  composer : Bool
  copier : Bool
  sweep : Bool
  deriving DecidableEq, Repr

/-- The record-memory arbiter: the port (free or held), the waiting requests, and the disturbances that wait for the
end of the grant holding their slot (R116, R118). -/
structure Arbiter where
  held : Option Grant
  waiting : Waiting
  deferred : List (Bank × Nat × DisturbanceKind)
  deriving DecidableEq, Repr

/-- The Store Controller (R129). The source of a rebuild is the primary bank and its target the other (R135). -/
structure StoreController where
  state : StoreState
  primary : Bank
  failedBank : Option Bank
  origin : Option StoreState
  rebuildCursor : Nat
  clearingCursor : Nat
  deriving DecidableEq, Repr

/-- The Sweep Unit (R142): cursor, timer in ms (none: stopped), and whether P8 or P9 was set during the sweep grant
in progress (R144, R146). -/
structure SweepUnit where
  cursor : Nat
  timer : Option Nat
  setAnew : Bool
  deriving DecidableEq, Repr

/-! ## Phrase Table -/

/-- The three states of a phrase entry (R43). -/
inductive PhraseState
  | free
  | defined
  | retiring
  deriving DecidableEq, Repr

/-- A phrase entry (R43). The text of a FREE entry is absent and is held as the empty list. -/
structure Phrase where
  state : PhraseState
  text : List Byte
  count : Nat
  deriving DecidableEq, Repr

/-- A FREE entry (R43, R55). -/
def freePhrase : Phrase := { state := .free, text := [], count := 0 }

/-! ## Service Clock and Retirement Unit -/

/-- The Service Clock (R56) with the day-change hold (R69). -/
structure ServiceClock where
  seconds : Nat
  minute : Nat
  isSet : Bool
  hold : Bool
  deriving DecidableEq, Repr

/-- The Retirement Unit (R60): `pass` is the pass position while WALKING and none while IDLE. -/
structure RetirementUnit where
  pass : Option Position
  pending : Bool
  deriving DecidableEq, Repr

/-! ## View Engine -/

/-- What a view does between rows and after a pass (R72). -/
inductive ViewMode
  | onePass
  | cyclic
  | stepped
  deriving DecidableEq, Repr

/-- The six view states (R76). -/
inductive ViewState
  | idle
  | running
  | parked
  | resting
  | stepWait
  | halted
  deriving DecidableEq, Repr

/-- The resume action of a PARKED view (R87): CONTINUE, REST, STEP, FINISH. -/
inductive Resume
  | goOn
  | rest
  | step
  | finish
  deriving DecidableEq, Repr

/-- A view's configuration (R72); bit n of `statuses` is the status with code n. -/
structure ViewConfig where
  platformFirst : Nat
  platformLast : Nat
  includeUnassigned : Bool
  statuses : BitVec 4
  offset : Nat
  rowCount : Nat
  wrap : Bool
  mode : ViewMode
  refresh : Nat
  takeLimit : Nat
  deriving DecidableEq, Repr

/-- Whether a pass has gone on from the front, with the wrap limit (R77). -/
inductive Wrapped
  | no
  | yes (limit : Option Position)
  deriving DecidableEq, Repr

/-- A view: configuration (R72), view state (R76) and pass state (R77). Composition in flight is computed from the
composer (log 13). -/
structure View where
  config : ViewConfig
  state : ViewState
  passNumber : Nat
  rowIndex : Nat
  cursor : Position
  anchor : Option Position
  skip : Nat
  wrapped : Wrapped
  searchEnded : Bool
  noticeDue : Bool
  resume : Option Resume
  refreshTimer : Option Nat
  deriving DecidableEq, Repr

/-- What the composer is doing (R79 to R82, R92): nothing; composing for a view just taken, its first access due
(log 4); searching for a view, its next claim due; waiting for or holding a grant on the candidate its search found;
finishing the grant of an abandoned composition. -/
inductive Composing
  | free
  | taken (view : Fin 4)
  | searching (view : Fin 4)
  | candidate (view : Fin 4) (entry : Entry)
  | draining
  deriving DecidableEq, Repr

/-- The one composer: its work and the view it last served (R79). -/
structure Composer where
  work : Composing
  lastServed : Fin 4
  deriving DecidableEq, Repr

/-! ## Board Links -/

/-- The departure of a RECORD row, with its texts resolved (R83). -/
structure RecordRow where
  body : RecordBody
  destinationText : List Byte
  viaText : Option (List Byte)
  deriving DecidableEq, Repr

/-- The kinds of row with the fields of each (R83). -/
inductive RowContent
  | blank
  | notice (text : List Byte)
  | record (r : RecordRow)
  deriving DecidableEq, Repr

/-- A row (R83): a copy that follows nothing once it is built. -/
structure Row where
  view : Fin 4
  index : Nat
  passNumber : Nat
  stale : Bool
  content : RowContent
  deriving DecidableEq, Repr

/-- The four link states (R99). -/
inductive LinkState
  | idle
  | sending
  | awaitTake
  | lost
  deriving DecidableEq, Repr

/-- A Board Link (R99). `frame` is the frame being sent on FRAME, empty when the line is at rest; `takeTimer` counts
units of 10 ms; `heldAtTick` says that ADVANCE stood asserted at the previous second tick with no release since
(R109); `line` is the level of the ADVANCE pin. -/
structure Link where
  state : LinkState
  slot : Option Row
  parked : Option Row
  frame : List Byte
  takeTimer : Option Nat
  advance : Bool
  holdTimer : Nat
  heldAtTick : Bool
  line : Bool
  deriving DecidableEq, Repr

/-! ## Event Unit -/

/-- A capture record (R167). -/
structure Capture where
  kind : EventKind
  minute : Option Nat
  slot : Option Nat
  key : Option Nat
  bank : Option Bank
  link : Option (Fin 4)
  operation : Operation
  deriving DecidableEq, Repr

/-- The Event Unit (R162 to R167). `sticky` holds the sticky flags, bit n for kind n; the level flags are computed
from their conditions (Machine/Flags.lean, log 13). -/
structure EventUnit where
  sticky : BitVec 12
  attention : BitVec 12
  fault : BitVec 12
  firstFatal : Option Capture
  firstError : Option Capture
  deriving DecidableEq, Repr

/-! ## The whole part -/

/-- The state of the SN4108: the queue of commands and events that wait (first in, first out), the RESET_N line, and
the blocks of 00_scope.md. -/
@[ext]
structure State where
  pending : List Instr
  inReset : Bool
  port : ControlPort
  cmd : Option InFlight
  dir : Directory
  mem : RecordMemory
  store : StoreController
  arb : Arbiter
  sweep : SweepUnit
  phrases : Vector Phrase 63
  clock : ServiceClock
  retire : RetirementUnit
  views : Vector View 4
  composer : Composer
  links : Vector Link 4
  events : EventUnit
  deriving DecidableEq, Repr

/-- Raised by nobody: no rule of the manual stops the block, so no meaning answers a fault. The constructor stands
so that the type has a name to say so; safe, since it is never used. -/
inductive Fault
  | neverRaised
  deriving DecidableEq, Repr

/-- Reasons a command may have no meaning. -/
inductive Refusal
  /-- Raised by an arm of exec whose row has no meaning yet (there is none); safe. -/
  | notModelled (mnemonic : String)
  deriving DecidableEq, Repr

/-! ## Reset values -/

/-- Parameter defaults (R159, R142). -/
def Params.reset : Params :=
  { overdueGrace := 10, departedLinger := 2, cancelledLinger := 60, silenceLimit := 0, staleAction := 1,
    noticePhrase := 0, sweepEnable := 0, sweepInterval := 100, sweepFirst := 0, sweepLast := 255, resetLinks := 0 }

/-- R148. A read whose strobe is low at a full reset loses its sample, so that the rise of that strobe does nothing:
R148 does not say what becomes of either (DESIGN CHOICE, log 22). -/
def ControlPort.reset : ControlPort :=
  { width := .eight, pendingNibble := none, lowRead := none, staging := Vector.replicate 32 0, pointer := 0,
    direction := .increment, lastResult := .ok, silence := 0, stale := false, params := Params.reset,
    driven := .released }

/-- R133. -/
def StoreController.reset : StoreController :=
  { state := .uninit, primary := .A, failedBank := none, origin := none, rebuildCursor := 0, clearingCursor := 0 }

/-- R133: no grant, no waiting request. -/
def Arbiter.reset : Arbiter :=
  { held := none, waiting := { command := false, composer := false, copier := false, sweep := false }, deferred := [] }

/-- R72. -/
def ViewConfig.reset : ViewConfig :=
  { platformFirst := 1, platformLast := 63, includeUnassigned := true, statuses := 0xF, offset := 0, rowCount := 8,
    wrap := false, mode := .onePass, refresh := 10, takeLimit := 10 }

/-- R98. -/
def View.reset : View :=
  { config := ViewConfig.reset, state := .idle, passNumber := 0, rowIndex := 0, cursor := { time := 0, key := 0 },
    anchor := none, skip := 0, wrapped := .no, searchEnded := false, noticeDue := false, resume := none,
    refreshTimer := none }

/-- R112: the ADVANCE level is taken from the line, without a rising edge. -/
def Link.reset (line : Bool) : Link :=
  { state := .idle, slot := none, parked := none, frame := [], takeTimer := none, advance := line, holdTimer := 0,
    heldAtTick := false, line := line }

/-- R170. -/
def EventUnit.reset : EventUnit :=
  { sticky := 0, attention := 0xFFF, fault := 0x090, firstFatal := none, firstError := none }

/-- The part right after a full reset (R19, R42, R55, R70, R98, R112, R133, R147, R148, R170), with nothing waiting
in the queue. The lines from outside are at rest: RESET_N not asserted and every ADVANCE line released
(DESIGN CHOICE, log 10). -/
def State.reset : State :=
  { pending := [], inReset := false, port := ControlPort.reset, cmd := none,
    dir := { isOpen := false, order := [] }, mem := { bankA := [], bankB := [] },
    store := StoreController.reset, arb := Arbiter.reset,
    sweep := { cursor := 0, timer := none, setAnew := false }, phrases := Vector.replicate 63 freePhrase,
    clock := { seconds := 0, minute := 0, isSet := false, hold := false },
    retire := { pass := none, pending := false }, views := Vector.replicate 4 View.reset,
    composer := { work := .free, lastServed := 3 }, links := Vector.replicate 4 (Link.reset false),
    events := EventUnit.reset }

end Sys2Proof.Machine
end

