-- ==== Sys2Proof/Machine/Ops.lean ====
section
/-!
DEFINITION. The named operations over the state: one setter per block, the elements of the banks, phrases, views and
links, the Event Unit's raise, and the result of an awake part.
-/

namespace Sys2Proof.Machine

/-! ## Setters: the one way a block is replaced -/

def State.setInReset (s : State) (v : Bool) : State := { s with inReset := v }
def State.setPort (s : State) (v : ControlPort) : State := { s with port := v }
def State.setCmd (s : State) (v : Option InFlight) : State := { s with cmd := v }
def State.setDir (s : State) (v : Directory) : State := { s with dir := v }
def State.setMem (s : State) (v : RecordMemory) : State := { s with mem := v }
def State.setStore (s : State) (v : StoreController) : State := { s with store := v }
def State.setArb (s : State) (v : Arbiter) : State := { s with arb := v }
def State.setSweep (s : State) (v : SweepUnit) : State := { s with sweep := v }
def State.setPhrases (s : State) (v : Vector Phrase 63) : State := { s with phrases := v }
def State.setClock (s : State) (v : ServiceClock) : State := { s with clock := v }
def State.setRetire (s : State) (v : RetirementUnit) : State := { s with retire := v }
def State.setViews (s : State) (v : Vector View 4) : State := { s with views := v }
def State.setComposer (s : State) (v : Composer) : State := { s with composer := v }
def State.setLinks (s : State) (v : Vector Link 4) : State := { s with links := v }
def State.setEvents (s : State) (v : EventUnit) : State := { s with events := v }

/-! ## Outcomes -/

/-- Every command and event answers a next state. While RESET_N is low the part takes no strobe and stays at its
reset values (R161, log 11), so nothing but the lines changes then. -/
def whenAwake (f : State → State) (s : State) : Host.Outcome State Fault Refusal :=
  .next (if s.inReset then s else f s)

/-! ## Control Port fields -/

/-- BUSY is set exactly while a command is between acceptance and completion (R155). -/
def State.busy (s : State) : Bool := s.cmd.isSome

/-- The parameters. -/
def State.params (s : State) : Params := s.port.params

/-- The nibble phase of R148, computed: SECOND (`true`) exactly while a nibble is pending (R149, R150). -/
def ControlPort.phaseSecond (p : ControlPort) : Bool := p.pendingNibble.isSome

/-- The nibble timer of R148, computed: it runs exactly while a nibble is pending (R149, R150). -/
def ControlPort.nibbleTimerRuns (p : ControlPort) : Bool := p.pendingNibble.isSome

/-- Put the whole staging area (R173). -/
def State.setStaging (s : State) (v : Vector Byte 32) : State := s.setPort { s.port with staging := v }

/-- Put the parameters. -/
def State.setParams (s : State) (v : Params) : State := s.setPort { s.port with params := v }

/-! ## Views and links -/

/-- View `n`. -/
def State.view (s : State) (n : Fin 4) : View := s.views[n]

/-- Put view `n`. -/
def State.setView (s : State) (n : Fin 4) (v : View) : State := s.setViews (s.views.set n v)

/-- Link `n`. -/
def State.link (s : State) (n : Fin 4) : Link := s.links[n]

/-- Put link `n`. -/
def State.setLink (s : State) (n : Fin 4) (l : Link) : State := s.setLinks (s.links.set n l)

/-- Four elements, each replaced by a function's value on it. -/
def mapFour {α : Type} (f : α → α) (v : Vector α 4) : Vector α 4 := Vector.ofFn fun n : Fin 4 => f v[n]

/-! ## Phrases -/

/-- Phrase entry `n`, 1..63; any other number names no entry (R43) and reads as FREE. -/
def State.phrase (s : State) (n : Nat) : Phrase :=
  if h : 1 ≤ n ∧ n ≤ 63 then s.phrases[n - 1] else freePhrase

/-- Put phrase entry `n`; a number that names no entry changes nothing. -/
def State.setPhrase (s : State) (n : Nat) (p : Phrase) : State :=
  if h : 1 ≤ n ∧ n ≤ 63 then s.setPhrases (s.phrases.set (n - 1) p) else s

/-! ## Banks: canonical lists of (slot, copy) -/

/-- The other bank. -/
def otherBank : Bank → Bank
  | .A => .B
  | .B => .A

/-- The copy at a slot of a bank; a slot that is not listed holds `resetCopy` (R133). -/
def bankGet : List (Nat × Copy) → Nat → Copy
  | [], _ => resetCopy
  | (k, c) :: rest, n => if n = k then c else bankGet rest n

/-- Put an entry in front unless it equals what an unlisted slot reads as. -/
def bankCons (n : Nat) (c : Copy) (rest : List (Nat × Copy)) : List (Nat × Copy) :=
  if c = resetCopy then rest else (n, c) :: rest

/-- Write the copy at a slot, keeping the canonical form. -/
def bankSet : List (Nat × Copy) → Nat → Copy → List (Nat × Copy)
  | [], n, c => bankCons n c []
  | (k, d) :: rest, n, c =>
    if n < k then bankCons n c ((k, d) :: rest)
    else if n = k then bankCons n c rest
    else (k, d) :: bankSet rest n c

/-- The canonical form of a bank: slots strictly rising, no entry equal to what an unlisted slot reads as. -/
def bankWf : List (Nat × Copy) → Bool
  | [] => true
  | (k, c) :: rest => c != resetCopy && rest.all (fun e => decide (k < e.1)) && bankWf rest

/-- The canonical form of Record Memory. -/
def RecordMemory.wf (m : RecordMemory) : Bool := bankWf m.bankA && bankWf m.bankB

/-- One bank of Record Memory. -/
def RecordMemory.bank (m : RecordMemory) : Bank → List (Nat × Copy)
  | .A => m.bankA
  | .B => m.bankB

/-- The copy at a slot of a bank. -/
def RecordMemory.copy (m : RecordMemory) (b : Bank) (n : Nat) : Copy := bankGet (m.bank b) n

/-- Put the copy at a slot of a bank. -/
def RecordMemory.setCopy (m : RecordMemory) (b : Bank) (n : Nat) (c : Copy) : RecordMemory :=
  match b with
  | .A => { m with bankA := bankSet m.bankA n c }
  | .B => { m with bankB := bankSet m.bankB n c }

/-- The copy at a slot of a bank. -/
def State.copy (s : State) (b : Bank) (n : Nat) : Copy := s.mem.copy b n

/-- Put the copy at a slot of a bank. -/
def State.setCopy (s : State) (b : Bank) (n : Nat) (c : Copy) : State := s.setMem (s.mem.setCopy b n c)

/-- The effect of a disturbance on a copy (R116): it never improves it and leaves its contents. -/
def disturbed (kind : DisturbanceKind) (c : Copy) : Copy :=
  match kind with
  | .correctable => if c.check = .good then { c with check := .correctable } else c
  | .uncorrectable => { c with check := .uncorrectable }
  | .stuck => { c with stuck := true }

/-- A disturbance takes effect on one of the 512 copies (R116). -/
def disturbCopy (b : Bank) (n : Nat) (kind : DisturbanceKind) (s : State) : State :=
  if n < Config.slots then s.setCopy b n (disturbed kind (s.copy b n)) else s

/-- What a write leaves in a copy (R115): the value, GOOD; at a stuck location the old contents, UNCORRECTABLE. -/
def written (v : Contents) (c : Copy) : Copy :=
  if c.stuck then { c with check := .uncorrectable } else { c with contents := v, check := .good }

/-- A write to one copy (R115). Its verify passes when the location is not stuck. -/
def writeCopy (b : Bank) (n : Nat) (v : Contents) (s : State) : State := s.setCopy b n (written v (s.copy b n))

/-- The record body that a read of a copy returns. A copy whose contents are unknown (R133) or free (R114) holds
no body: the value is free (log 6). -/
def bodyOf (b : Bank) (n : Nat) : Contents → RecordBody
  | .body r => r
  | .free => Config.unstatedBody b n
  | .unknown => Config.unstatedBody b n

/-! ## Events -/

/-- The number of an event kind (R162). -/
def EventKind.number : EventKind → Nat
  | .corrected => 0
  | .repaired => 1
  | .withdrawn => 2
  | .bankLost => 3
  | .storeFailed => 4
  | .rebuildDone => 5
  | .rebuildFailed => 6
  | .stale => 7
  | .overrun => 8
  | .clockLimit => 9
  | .linkLost => 10
  | .phraseFreed => 11

/-- The level kinds, whose flags follow a condition (R162, R164). -/
def EventKind.isLevel : EventKind → Bool
  | .bankLost => true
  | .storeFailed => true
  | .stale => true
  | .clockLimit => true
  | .corrected => false
  | .repaired => false
  | .withdrawn => false
  | .rebuildDone => false
  | .rebuildFailed => false
  | .overrun => false
  | .linkLost => false
  | .phraseFreed => false

/-- The fatal class, offered to the first-fatal capture (R162, R167). -/
def EventKind.isFatal : EventKind → Bool
  | .withdrawn => true
  | .storeFailed => true
  | .corrected => false
  | .repaired => false
  | .bankLost => false
  | .rebuildDone => false
  | .rebuildFailed => false
  | .stale => false
  | .overrun => false
  | .clockLimit => false
  | .linkLost => false
  | .phraseFreed => false

/-- The error class, offered to the first-error capture (R162, R167). -/
def EventKind.isError : EventKind → Bool
  | .corrected => true
  | .repaired => true
  | .bankLost => true
  | .rebuildFailed => true
  | .overrun => true
  | .linkLost => true
  | .withdrawn => false
  | .storeFailed => false
  | .rebuildDone => false
  | .stale => false
  | .clockLimit => false
  | .phraseFreed => false

/-- The set of one event kind, as bits (R173, events layout). -/
def EventKind.bit (k : EventKind) : BitVec 12 := (1#12) <<< k.number

/-- An offer to a capture: an empty one is filled, a filled one is kept (R167). -/
def offered (old : Option Capture) (c : Capture) : Option Capture :=
  match old with
  | none => some c
  | some d => some d

/-- The Event Unit takes an event: a sticky kind sets its flag, and the event is offered to the capture of its class
(R162, R163, R167). The flag of a level kind is computed from its condition. -/
def EventUnit.take (u : EventUnit) (c : Capture) : EventUnit :=
  { u with
    sticky := if c.kind.isLevel then u.sticky else u.sticky ||| c.kind.bit
    firstFatal := if c.kind.isFatal then offered u.firstFatal c else u.firstFatal
    firstError := if c.kind.isError then offered u.firstError c else u.firstError }

/-- The minute a capture records: absent while the clock is not set (R167). -/
def State.captureMinute (s : State) : Option Nat := if s.clock.isSet then some s.clock.minute else none

/-- Raise an event with the fields its rule gives (R168). -/
def raiseEvent (k : EventKind) (slot key : Option Nat) (bank : Option Bank) (link : Option (Fin 4)) (op : Operation)
    (s : State) : State :=
  s.setEvents (s.events.take
    { kind := k, minute := s.captureMinute, slot := slot, key := key, bank := bank, link := link, operation := op })

end Sys2Proof.Machine
end

