-- ==== Sys2Proof/Machine/Flags.lean ====
section
/-!
DEFINITION. The twelve event flags, the ATTN and FAULT lines and the status byte (R151, R164, R165, R171, R172).
-/

namespace Sys2Proof.Machine

/-- The condition that a level flag follows (R164). A sticky kind has none. -/
def levelHolds (s : State) : EventKind → Bool
  | .bankLost => s.store.state = .degraded
  | .storeFailed => s.store.state = .failed
  | .stale => s.port.stale
  | .clockLimit => s.clock.minute = Config.lastMinute
  | .corrected => false
  | .repaired => false
  | .withdrawn => false
  | .rebuildDone => false
  | .rebuildFailed => false
  | .overrun => false
  | .linkLost => false
  | .phraseFreed => false

/-- The set bit of a kind when `on`, else no bit. -/
def flagBit (k : EventKind) (on : Bool) : BitVec 12 := if on then k.bit else 0

/-- The level flags as bits 3, 4, 7 and 9 (R162, R164). -/
def levelFlags (s : State) : BitVec 12 :=
  flagBit .bankLost (levelHolds s .bankLost) ||| flagBit .storeFailed (levelHolds s .storeFailed) |||
    flagBit .stale (levelHolds s .stale) ||| flagBit .clockLimit (levelHolds s .clockLimit)

/-- The twelve event flags, bit n for kind n (R162). -/
def State.flags (s : State) : BitVec 12 := s.events.sticky ||| levelFlags s

/-- The ATTN line: asserted exactly while some set flag has its attention enable on (R165). -/
def State.attn (s : State) : Bool := s.flags &&& s.events.attention != 0

/-- The FAULT line: asserted exactly while some set flag has its fault enable on (R165). -/
def State.faultLine (s : State) : Bool := s.flags &&& s.events.fault != 0

/-- The number of a result code (R172). -/
def ResultCode.number : ResultCode → Nat
  | .ok => 0
  | .badCommand => 1
  | .fieldRange => 2
  | .duplicateKey => 3
  | .unknownKey => 4
  | .tableFull => 5
  | .notServing => 6
  | .unknownPhrase => 7
  | .phraseRetiring => 8
  | .statusFinal => 9
  | .noSuchRank => 10
  | .endOfOrder => 11
  | .viewBusy => 12
  | .badTransition => 13
  | .clockUnset => 14
  | .tooEarly => 15
  | .withdrawn => 16

/-- The status byte: BUSY in bit 7, ATTN in bit 6, the last result code in bits 5..0 (R151, R171). -/
def statusByte (s : State) : Byte :=
  BitVec.ofNat 8 ((if s.busy then 128 else 0) + (if s.attn then 64 else 0) + s.port.lastResult.number)

end Sys2Proof.Machine
end

