-- ==== Sys2Proof/Machine/Operands.lean ====
section
/-!
DEFINITION. The staging layouts (R173): the byte-order helpers, what a command reads from its places, and the bytes it
writes. Multi-byte numbers stand high byte first (11_formats_and_codes.md).
-/

namespace Sys2Proof.Machine

/-! ## Bytes -/

/-- A number as one byte. -/
def byteOf (n : Nat) : Byte := BitVec.ofNat 8 n

/-- A number as two bytes, high byte first. -/
def twoBytes (n : Nat) : List Byte := [byteOf (n / 256), byteOf n]

/-- The staging byte at a place, as a number. -/
def State.place (s : State) (i : Nat) : Nat := (s.port.staging.toList.getD i 0).toNat

/-- The two-byte number at places `i` and `i + 1`. -/
def State.word (s : State) (i : Nat) : Nat := s.place i * 256 + s.place (i + 1)

/-- Bit `n` of the staging byte at a place. -/
def State.placeBit (s : State) (i n : Nat) : Bool := (s.place i).testBit n

/-- The places `i`, `i + 1`, ... as many as `count`. -/
def State.places (s : State) (i count : Nat) : List Nat := (List.range count).map fun k => s.place (i + k)

/-- A staging area whose first places hold the bytes given and whose other places hold 0x00 (R173). -/
def stagingOf (bytes : List Byte) : Vector Byte 32 := Vector.ofFn fun i : Fin 32 => bytes.getD i.val 0

/-- An optional number whose encoding is 0 when absent. -/
def optNum (n : Nat) : Option Nat := if n = 0 then none else some n

/-- The encoding of an optional number that is 0 when absent. -/
def numOf (o : Option Nat) : Nat := o.getD 0

/-- A yes or no as a bit value. -/
def bitVal (b : Bool) (v : Nat) : Nat := if b then v else 0

/-! ## The record layout -/

/-- Status codes (R173, record layout place 7). -/
def statusCode : Status → Nat
  | .planned => 0
  | .boarding => 1
  | .departed => 2
  | .cancelled => 3

/-- The status that bits 1..0 of a byte name. -/
def statusOf (n : Nat) : Status :=
  match n % 4 with
  | 0 => .planned
  | 1 => .boarding
  | 2 => .departed
  | _ => .cancelled

/-- The expected time at places 4-5: bit 15 present, bits 14..0 the minute. -/
def State.stagedExpected (s : State) : Option Nat :=
  if s.word 4 < 32768 then none else some (s.word 4 - 32768)

/-- The attribute codes staged: the first count places of 11-14. -/
def State.stagedAttributes (s : State) : List Nat := s.places 11 (s.place 10)

/-- The key at places 0-1. -/
def State.stagedKey (s : State) : Nat := s.word 0

/-- The record body that ADD writes (R28): the fields staged, carried no, amendment count 0. -/
def State.stagedBody (s : State) : RecordBody :=
  { key := s.stagedKey, scheduled := s.word 2, expected := s.stagedExpected, platform := optNum (s.place 6),
    status := statusOf (s.place 7), held := s.placeBit 7 2, carried := false, destination := s.place 8,
    via := optNum (s.place 9), attributes := s.stagedAttributes, amendments := 0 }

/-- Range tests of R23, field by field. -/
def timeOk (n : Nat) : Bool := n ≤ Config.lastMinute
def optTimeOk : Option Nat → Bool
  | none => true
  | some n => timeOk n
def keyOk (n : Nat) : Bool := n != 0
def platformOk (n : Nat) : Bool := n ≤ Config.lastPhrase
def destinationOk (n : Nat) : Bool := 1 ≤ n && n ≤ Config.lastPhrase
def viaOk (n : Nat) : Bool := n ≤ Config.lastPhrase
/-- At most 4 codes, each 1..31, none twice (R2, R23). -/
def attributesOk (count : Nat) (codes : List Nat) : Bool :=
  count ≤ 4 && codes.all (fun c => 1 ≤ c && c ≤ 31) && decide codes.Nodup

/-- The range tests of ADD (R23, R27). -/
def State.addInRange (s : State) : Bool :=
  keyOk s.stagedKey && timeOk (s.word 2) && optTimeOk s.stagedExpected && platformOk (s.place 6) &&
    destinationOk (s.place 8) && viaOk (s.place 9) && attributesOk (s.place 10) s.stagedAttributes

/-- The fields an amend mask can select, by their bits in place 15 (R30, R173). -/
inductive AmendField
  | scheduled
  | expected
  | platform
  | status
  | held
  | destination
  | via
  | attributes
  deriving DecidableEq, Repr

/-- The mask bit of a field. -/
def AmendField.bit : AmendField → Nat
  | .scheduled => 0
  | .expected => 1
  | .platform => 2
  | .status => 3
  | .held => 4
  | .destination => 5
  | .via => 6
  | .attributes => 7

/-- The amend mask selects the field. -/
def State.selects (s : State) (f : AmendField) : Bool := s.placeBit 15 f.bit

/-- The range tests of AMEND: the key and the fields the mask selects (R23, R31). -/
def State.amendInRange (s : State) : Bool :=
  keyOk s.stagedKey && (!s.selects .scheduled || timeOk (s.word 2)) &&
    (!s.selects .expected || optTimeOk s.stagedExpected) && (!s.selects .platform || platformOk (s.place 6)) &&
    (!s.selects .destination || destinationOk (s.place 8)) && (!s.selects .via || viaOk (s.place 9)) &&
    (!s.selects .attributes || attributesOk (s.place 10) s.stagedAttributes)

/-- The change an AMEND makes to a body (R30): the selected fields, carried no where the scheduled time is selected,
and the amendment count raised by one, 255 followed by 0. -/
def State.amended (s : State) (r : RecordBody) : RecordBody :=
  { r with
    scheduled := if s.selects .scheduled then s.word 2 else r.scheduled
    expected := if s.selects .expected then s.stagedExpected else r.expected
    platform := if s.selects .platform then optNum (s.place 6) else r.platform
    status := if s.selects .status then statusOf (s.place 7) else r.status
    held := if s.selects .held then s.placeBit 7 2 else r.held
    carried := if s.selects .scheduled then false else r.carried
    destination := if s.selects .destination then s.place 8 else r.destination
    via := if s.selects .via then optNum (s.place 9) else r.via
    attributes := if s.selects .attributes then s.stagedAttributes else r.attributes
    amendments := (r.amendments + 1) % 256 }

/-- The effective time: the expected time when present, else the scheduled time (R4). -/
def effectiveTime (r : RecordBody) : Nat := r.expected.getD r.scheduled

/-- The directory entry copied from a body (R7). -/
def entryOf (r : RecordBody) (slot : Nat) : Entry :=
  { key := r.key, slot := slot, effective := effectiveTime r, platform := r.platform, status := r.status, held := r.held,
    destination := r.destination, via := r.via }

/-- The position FIND NEXT reads: time at places 2-3, key at places 0-1 (R39, R173). -/
def State.stagedPosition (s : State) : Position := { time := s.word 2, key := s.word 0 }

/-- The two bytes of an optional minute: bit 15 present (R173). -/
def optMinuteBytes : Option Nat → List Byte
  | none => [0, 0]
  | some m => twoBytes (32768 + m)

/-- Place 7: status, held in bit 2, carried in bit 3 (R173). -/
def statusFlags (r : RecordBody) : Nat := statusCode r.status + bitVal r.held 4 + bitVal r.carried 8

/-- The attribute places 11-14: the codes in order, places beyond the count 0x00. -/
def attributeBytes (codes : List Nat) : List Byte := (List.range 4).map fun i => byteOf (codes.getD i 0)

/-- Places 0-19 as a fetch command writes them (R40, R173); place 15 carries no output. -/
def recordBytes (r : RecordBody) (slot rank : Nat) : List Byte :=
  twoBytes r.key ++ twoBytes r.scheduled ++ optMinuteBytes r.expected ++
    [byteOf (numOf r.platform), byteOf (statusFlags r), byteOf r.destination, byteOf (numOf r.via),
      byteOf r.attributes.length] ++
    attributeBytes r.attributes ++ [0, byteOf r.amendments, byteOf slot] ++ twoBytes rank

/-- `count` places without output. -/
def noOutput (count : Nat) : List Byte := List.replicate count 0

/-- ADD writes 17 and 18-19 (R29, R173). -/
def addBytes (slot rank : Nat) : List Byte := noOutput 17 ++ [byteOf slot] ++ twoBytes rank

/-- AMEND writes 16, 17 and 18-19 (R34, R173). -/
def amendBytes (amendments slot rank : Nat) : List Byte :=
  noOutput 16 ++ [byteOf amendments, byteOf slot] ++ twoBytes rank

/-! ## The phrase layout -/

/-- Phrase state codes (R173). -/
def PhraseState.code : PhraseState → Nat
  | .free => 0
  | .defined => 1
  | .retiring => 2

/-- The text staged for DEFINE PHRASE: the first length places of 5-28. -/
def State.stagedText (s : State) : List Nat := s.places 5 (s.place 4)

/-- Places 0, 1 and 2-3 (RETIRE PHRASE). -/
def phraseStateBytes (n : Nat) (p : Phrase) : List Byte :=
  [byteOf n, byteOf p.state.code] ++ twoBytes p.count

/-- Places 0 to 4 and the text (READ PHRASE). -/
def phraseBytes (n : Nat) (p : Phrase) : List Byte :=
  phraseStateBytes n p ++ [byteOf p.text.length] ++ p.text

/-! ## The view layout -/

/-- View mode codes. -/
def ViewMode.code : ViewMode → Nat
  | .onePass => 0
  | .cyclic => 1
  | .stepped => 2

/-- The mode a code names. -/
def modeOf : Nat → Option ViewMode
  | 0 => some .onePass
  | 1 => some .cyclic
  | 2 => some .stepped
  | _ => none

/-- View state codes. -/
def ViewState.code : ViewState → Nat
  | .idle => 0
  | .running => 1
  | .parked => 2
  | .resting => 3
  | .stepWait => 4
  | .halted => 5

/-- The view number at place 0, when it is one of 0..3. -/
def State.stagedView (s : State) : Option (Fin 4) := if h : s.place 0 < 4 then some ⟨s.place 0, h⟩ else none

/-- The range tests of CONFIGURE VIEW but for the mode (R75 step 2). -/
def State.configInRange (s : State) : Bool :=
  destinationOk (s.place 1) && destinationOk (s.place 2) && s.place 4 % 16 != 0 && 1 ≤ s.place 6 &&
    s.place 6 ≤ 16 && 1 ≤ s.place 8 && s.place 8 ≤ 60 && 1 ≤ s.place 9

/-- The configuration staged, when its fields are in range (R75, R173). -/
def State.stagedConfig (s : State) : Option ViewConfig :=
  match modeOf (s.place 7) with
  | none => none
  | some mode =>
    if s.configInRange then
      some { platformFirst := s.place 1, platformLast := s.place 2, includeUnassigned := s.placeBit 3 0,
             statuses := BitVec.ofNat 4 (s.place 4), offset := s.place 5, rowCount := s.place 6,
             wrap := s.placeBit 3 1, mode := mode, refresh := s.place 8, takeLimit := s.place 9 }
    else none

/-- Places 0-15 as READ VIEW writes them (R97, R173). -/
def viewBytes (n : Nat) (v : View) (l : Link) : List Byte :=
  [byteOf n, byteOf v.config.platformFirst, byteOf v.config.platformLast,
    byteOf (bitVal v.config.includeUnassigned 1 + bitVal v.config.wrap 2), byteOf v.config.statuses.toNat,
    byteOf v.config.offset, byteOf v.config.rowCount, byteOf v.config.mode.code, byteOf v.config.refresh,
    byteOf v.config.takeLimit, byteOf v.state.code, byteOf v.passNumber, byteOf v.rowIndex] ++
    twoBytes v.cursor.key ++ [byteOf (bitVal l.slot.isSome 1 + bitVal l.parked.isSome 2)]

/-- START VIEW writes place 11, SHIFT VIEW place 5. -/
def passNumberBytes (n : Nat) : List Byte := noOutput 11 ++ [byteOf n]
def offsetBytes (n : Nat) : List Byte := noOutput 5 ++ [byteOf n]

/-! ## The clock and store layouts -/

/-- Places 0-9 as NEW DAY writes them (R68, R173). -/
def newDayBytes (d : NewDay) : List Byte :=
  twoBytes d.minute ++ twoBytes d.retired ++ twoBytes d.rebased ++ twoBytes d.clamped ++ twoBytes d.withdrawn

/-- Store state codes. -/
def StoreState.code : StoreState → Nat
  | .uninit => 0
  | .clearing => 1
  | .ready => 2
  | .single => 3
  | .mirrored => 4
  | .rebuilding => 5
  | .degraded => 6
  | .failed => 7

/-- The store state a code names. -/
def storeStateOf : Nat → Option StoreState
  | 0 => some .uninit
  | 1 => some .clearing
  | 2 => some .ready
  | 3 => some .single
  | 4 => some .mirrored
  | 5 => some .rebuilding
  | 6 => some .degraded
  | 7 => some .failed
  | _ => none

/-- Bank codes. -/
def bankCode : Bank → Nat
  | .A => 0
  | .B => 1

/-- The bank a code names. -/
def bankOf : Nat → Option Bank
  | 0 => some .A
  | 1 => some .B
  | _ => none

/-- Place 2: absent 0x00, A 0x80, B 0x81. -/
def failedBankByte : Option Bank → Byte
  | none => 0
  | some .A => 0x80
  | some .B => 0x81

/-- Place 3: absent 0x00, SINGLE 0x83, DEGRADED 0x86. -/
def originByte : Option StoreState → Byte
  | none => 0
  | some o => byteOf (0x80 + o.code)

/-- Places 0-14 as READ STATE writes them (R132, R173); `live` is the live count. -/
def stateBytes (s : State) (live : Nat) : List Byte :=
  [byteOf s.store.state.code, byteOf (bankCode s.store.primary), failedBankByte s.store.failedBank,
    originByte s.store.origin] ++
    twoBytes s.store.rebuildCursor ++ twoBytes s.store.clearingCursor ++ twoBytes live ++ twoBytes s.clock.minute ++
    [byteOf s.clock.seconds,
      byteOf (bitVal s.clock.isSet 1 + bitVal s.retire.pass.isSome 2 + bitVal s.retire.pending 4),
      byteOf s.sweep.cursor]

/-- The kind of disturbance a CHECK TEST code names. -/
def disturbanceOf : Nat → Option DisturbanceKind
  | 0 => some .correctable
  | 1 => some .uncorrectable
  | 2 => some .stuck
  | _ => none

/-! ## The parameter, events and capture layouts -/

/-- The value of a parameter as a number; P10 as its link bits (R173). -/
def Params.value (p : Params) : Nat → Nat
  | 0 => p.overdueGrace
  | 1 => p.departedLinger
  | 2 => p.cancelledLinger
  | 3 => p.silenceLimit
  | 4 => p.staleAction
  | 5 => p.noticePhrase
  | 6 => p.sweepEnable
  | 7 => p.sweepInterval
  | 8 => p.sweepFirst
  | 9 => p.sweepLast
  | 10 => p.resetLinks.toNat
  | _ => 0

/-- How many of links 0..3 a value names. -/
def linkCount (v : Nat) : Nat :=
  bitVal (v.testBit 0) 1 + bitVal (v.testBit 1) 1 + bitVal (v.testBit 2) 1 + bitVal (v.testBit 3) 1

/-- The range of each parameter (R159). -/
def paramInRange (n v : Nat) : Bool :=
  match n with
  | 0 => v ≤ 60
  | 1 => v ≤ 15
  | 2 => v ≤ 240
  | 3 => v ≤ 1023
  | 4 => v ≤ 1
  | 5 => v ≤ 63
  | 6 => v ≤ 1
  | 7 => 1 ≤ v && v ≤ 1000
  | 8 => v ≤ 255
  | 9 => v ≤ 255
  | 10 => v < 16 && linkCount v != 1
  | _ => false

/-- A parameter takes a value (R159). -/
def Params.put (p : Params) (n v : Nat) : Params :=
  match n with
  | 0 => { p with overdueGrace := v }
  | 1 => { p with departedLinger := v }
  | 2 => { p with cancelledLinger := v }
  | 3 => { p with silenceLimit := v }
  | 4 => { p with staleAction := v }
  | 5 => { p with noticePhrase := v }
  | 6 => { p with sweepEnable := v }
  | 7 => { p with sweepInterval := v }
  | 8 => { p with sweepFirst := v }
  | 9 => { p with sweepLast := v }
  | 10 => { p with resetLinks := BitVec.ofNat 4 v }
  | _ => p

/-- Places 0 and 1-2 as READ PARAMETER writes them (R160). -/
def parameterBytes (n v : Nat) : List Byte := [byteOf n] ++ twoBytes v

/-- A set of event kinds at two places: bits 15..12 must be 0 (R173). -/
def State.stagedKinds (s : State) (i : Nat) : Option (BitVec 12) :=
  if s.word i < 4096 then some (BitVec.ofNat 12 (s.word i)) else none

/-- Places 0-6 as READ EVENTS writes them (R166, R173). -/
def eventsBytes (s : State) : List Byte :=
  twoBytes s.flags.toNat ++ twoBytes s.events.attention.toNat ++ twoBytes s.events.fault.toNat ++
    [byteOf (bitVal s.events.firstFatal.isSome 1 + bitVal s.events.firstError.isSome 2)]

/-- Operation codes. -/
def Operation.code : Operation → Nat
  | .command => 0
  | .compose => 1
  | .sweep => 2
  | .rebuild => 3
  | .port => 4
  | .link => 5

/-- Places 0-11 as READ CAPTURE writes them (R169, R173); place 0 carries no output. -/
def captureBytes : Option Capture → List Byte
  | none => [0, 0]
  | some c =>
    [0, 1, byteOf c.kind.number] ++ optMinuteBytes c.minute ++
      [byteOf (bitVal c.slot.isSome 1 + bitVal c.key.isSome 2 + bitVal c.bank.isSome 4 + bitVal c.link.isSome 8),
        byteOf (numOf c.slot)] ++
      twoBytes (numOf c.key) ++
      [byteOf (numOf (c.bank.map bankCode)), byteOf (numOf (c.link.map fun l => l.val)), byteOf c.operation.code]

end Sys2Proof.Machine
end

