-- ==== Sys2Proof/Machine/Claims.lean ====
section
/-!
DEFINITION. The Directory's claims (01_the_departure_table.md) and the Phrase Table's takes and releases (R51, R52),
each served whole.
-/

namespace Sys2Proof.Machine

/-! ## Positions -/

/-- One position lies before another: smaller time, or equal times and smaller key (R12). -/
def posBefore (p q : Position) : Bool := p.time < q.time || (p.time == q.time && p.key < q.key)

/-- The position of a live record (R12). -/
def entryPos (e : Entry) : Position := { time := e.effective, key := e.key }

/-- The position before every live record (R12). -/
def frontPos : Position := { time := 0, key := 0 }

/-! ## Phrase references -/

/-- A take adds 1 to the count (R51). -/
def takePhrase (n : Nat) (s : State) : State :=
  s.setPhrase n { s.phrase n with count := (s.phrase n).count + 1 }

/-- A release takes 1 from the count; a RETIRING entry brought to 0 becomes FREE with PHRASE_FREED (R52), an event of
the info class, which no capture records. A release never meets a FREE entry (R52; log 19). -/
def releasePhrase (n : Nat) (s : State) : State :=
  match (s.phrase n).state with
  | .free => s
  | .defined => s.setPhrase n { s.phrase n with count := (s.phrase n).count - 1 }
  | .retiring =>
    if (s.phrase n).count ≤ 1 then
      raiseEvent .phraseFreed none none none none .command (s.setPhrase n freePhrase)
    else s.setPhrase n { s.phrase n with count := (s.phrase n).count - 1 }

/-- A take for a phrase field that may be absent. -/
def takeVia (v : Option Nat) (s : State) : State :=
  match v with
  | none => s
  | some n => takePhrase n s

/-- A release for a phrase field that may be absent. -/
def releaseVia (v : Option Nat) (s : State) : State :=
  match v with
  | none => s
  | some n => releasePhrase n s

/-- The references of an entry: one for the destination, one for the via if present (R45). -/
def takeEntry (e : Entry) (s : State) : State := takeVia e.via (takePhrase e.destination s)

/-- The releases for an entry that leaves (R17, R52). -/
def releaseEntry (e : Entry) (s : State) : State := releaseVia e.via (releasePhrase e.destination s)

/-- The takes and then the releases of an update claim: a field whose phrase is the same before and after is neither
taken nor released (R16, R51). -/
def moveReferences (old new : Entry) (s : State) : State :=
  let s := if old.destination = new.destination then s else takePhrase new.destination s
  let s := if old.via = new.via then s else takeVia new.via s
  let s := if old.destination = new.destination then s else releasePhrase old.destination s
  if old.via = new.via then s else releaseVia old.via s

/-! ## Reading the collections -/

/-- What a find claim sees: a closed Directory answers as an empty one (R14). -/
def State.entries (s : State) : List Entry := if s.dir.isOpen then s.dir.order else []

/-- The live count (R9). -/
def State.liveCount (s : State) : Nat := s.dir.order.length

/-- Put an entry at the place its key gives it (R9). -/
def insertByKey (e : Entry) : List Entry → List Entry
  | [] => [e]
  | f :: rest => if e.key < f.key then e :: f :: rest else f :: insertByKey e rest

/-- The key map (R9), computed: the entries by ascending key. -/
def State.keyMap (s : State) : List Entry := s.dir.order.foldr insertByKey []

/-- The slot is occupied by a directory entry (R11). -/
def State.occupied (s : State) (slot : Nat) : Bool := s.dir.order.any fun e => e.slot == slot

/-- The free-slot set (R11), computed: the slots that no entry occupies, lowest first. -/
def State.freeSlots (s : State) : List Nat := (List.range Config.slots).filter fun n => !s.occupied n

/-- The lookup key claim (R13). -/
def lookupKey (key : Nat) (s : State) : Option Entry := s.entries.find? fun e => e.key == key

/-- The rank of a key: the place of its entry in the departure order (R12). -/
def rankOf (key : Nat) (s : State) : Nat := s.dir.order.findIdx fun e => e.key == key

/-- The lookup rank claim (R13). The rank it answers beside the entry is the one it was given. -/
def lookupRank (rank : Nat) (s : State) : Option Entry := s.entries[rank]?

/-- The next after claim (R13): the first entry strictly after the position that passes the filter. The rank it answers
beside the entry is `rankOf` of its key. -/
def nextAfter (pos : Position) (passes : Entry → Bool) (s : State) : Option Entry :=
  s.entries.find? fun e => posBefore pos (entryPos e) && passes e

/-- No view filter. -/
def anyEntry (_ : Entry) : Bool := true

/-- The count passing claim (R13). -/
def countPassing (passes : Entry → Bool) (s : State) : Nat := s.entries.countP passes

/-- The choose slot claim (R11, R13): the lowest-numbered free slot; a closed Directory answers as an empty one. -/
def chooseSlot (s : State) : Option Nat :=
  (List.range Config.slots).find? fun n => !(s.entries.any fun e => e.slot == n)

/-- The slot query claim (R134): the key of the entry that occupies the slot, or free. -/
def slotQuery (slot : Nat) (s : State) : Option Nat := (s.entries.find? fun e => e.slot == slot).map fun e => e.key

/-- The entry with that key and that slot, which update and remove claims name (R16, R17). -/
def entryAt (key slot : Nat) (s : State) : Option Entry :=
  s.entries.find? fun e => e.key == key && e.slot == slot

/-! ## Changing the collections -/

/-- Put an entry at the place its (effective time, key) gives it (R10). -/
def insertEntry (e : Entry) : List Entry → List Entry
  | [] => [e]
  | f :: rest => if posBefore (entryPos e) (entryPos f) then e :: f :: rest else f :: insertEntry e rest

/-- Take the entry with a key and a slot out of the order. -/
def dropEntry (key slot : Nat) (l : List Entry) : List Entry := l.filter fun e => !(e.key == key && e.slot == slot)

/-- Replace the departure order. -/
def State.setOrder (s : State) (l : List Entry) : State := s.setDir { s.dir with order := l }

/-- What an insert claim answers (R13, R15): the rank, or a refusal. The two last never arise (log 17). -/
inductive InsertAnswer
  | served (rank : Nat) (s : State)
  | closed
  | keyLive
  | slotTaken

/-- The insert claim (R15): the entry takes its place, its slot leaves the free-slot set, and the references are
taken, all in one claim. -/
def insertClaim (e : Entry) (s : State) : InsertAnswer :=
  if !s.dir.isOpen then .closed
  else if (lookupKey e.key s).isSome then .keyLive
  else if s.occupied e.slot || Config.slots ≤ e.slot then .slotTaken
  else
    let t := takeEntry e (s.setOrder (insertEntry e s.dir.order))
    .served (rankOf e.key t) t

/-- What an update claim answers (R16). -/
inductive UpdateAnswer
  | served (rank : Nat) (s : State)
  | notPresent
  | closed

/-- The update claim (R16): the entry with that key and slot takes the new values, moves to the place its new
(effective time, key) gives it, and its references move. Its key and slot are unchanged. -/
def updateClaim (key slot : Nat) (new : Entry) (s : State) : UpdateAnswer :=
  if !s.dir.isOpen then .closed
  else
    match entryAt key slot s with
    | none => .notPresent
    | some old =>
      let e : Entry := { new with key := key, slot := slot }
      let t := moveReferences old e (s.setOrder (insertEntry e (dropEntry key slot s.dir.order)))
      .served (rankOf key t) t

/-- The effect of a remove claim that finds the entry (R17): it leaves, its slot returns to the free-slot set and its
references are released. -/
def removeEntry (e : Entry) (s : State) : State :=
  releaseEntry e (s.setOrder (dropEntry e.key e.slot s.dir.order))

/-- The change that the empty claim makes (R18): every entry leaves, every reference of an entry is released, the
Directory closes. -/
def emptyDirectory (s : State) : State :=
  (s.dir.order.foldl (fun t e => releaseEntry e t) s).setDir { isOpen := false, order := [] }

/-- The empty claim (R13, R18): it answers the number of entries removed. -/
def emptyClaim (s : State) : Nat × State := (s.liveCount, emptyDirectory s)

/-- The open claim (R14). -/
def openClaim (s : State) : State := s.setDir { s.dir with isOpen := true }

end Sys2Proof.Machine
end

