-- ==== Sys2Proof/Machine/Arbiter.lean ====
section
/-!
DEFINITION. The arbiter of the Record Memory port (R118, R119) and the completion of commands (R156).
-/

namespace Sys2Proof.Machine

/-! ## Grants -/

/-- The slot and the key that a command in flight names for its grant; SET STORE STATE covers no slot (R129). -/
def commandTarget : InFlight → Option Nat × Nat
  | .add key slot => (some slot, key)
  | .amend key slot _ => (some slot, key)
  | .retire _ _ _ => (none, 0)
  | .fetch _ key slot _ => (some slot, key)
  | .refetch _ _ _ => (none, 0)
  | .newDay day =>
    match day.rebase with
    | none => (none, 0)
    | some (key, slot) => (some slot, key)
  | .storeState _ _ => (none, 0)
  | .checkTest _ slot _ => (some slot, 0)

/-- The slot and key a requester names as its grant is made: the copier's and the sweep's slots are the ones their
cursors name then (R136, R146). -/
def grantTarget (r : Requester) (s : State) : Option Nat × Nat :=
  match r with
  | .command =>
    match s.cmd with
    | none => (none, 0)
    | some c => commandTarget c
  | .composer =>
    match s.composer.work with
    | .candidate _ e => (some e.slot, e.key)
    | .free => (none, 0)
    | .taken _ => (none, 0)
    | .searching _ => (none, 0)
    | .draining => (none, 0)
  | .copier => (some s.store.rebuildCursor, 0)
  | .sweep => (some s.sweep.cursor, 0)

/-- Put or take back a requester's mark in the waiting set. -/
def Waiting.put (w : Waiting) (r : Requester) (v : Bool) : Waiting :=
  match r with
  | .command => { w with command := v }
  | .composer => { w with composer := v }
  | .copier => { w with copier := v }
  | .sweep => { w with sweep := v }

/-- The waiting requester that stands first in the arbiter's order (R118). -/
def Waiting.first (w : Waiting) : Option Requester :=
  if w.command then some .command
  else if w.composer then some .composer
  else if w.copier then some .copier
  else if w.sweep then some .sweep
  else none

/-- A requester's mark in the waiting set. -/
def State.setWaiting (r : Requester) (v : Bool) (s : State) : State :=
  s.setArb { s.arb with waiting := s.arb.waiting.put r v }

/-- The port is handed to a requester. A sweep grant begins with no cursor set anew: a setting of P8 or P9 that was
taken while its request waited is none taken during the step (R144, R146; DEDUCED, log 24). -/
def grantTo (r : Requester) (s : State) : State :=
  let t := s.setArb { held := some { holder := r, slot := (grantTarget r s).1, key := (grantTarget r s).2, progress := .begun },
                      waiting := s.arb.waiting.put r false, deferred := [] }
  if r = .sweep then t.setSweep { t.sweep with setAnew := false } else t

/-- A request for the port (R118): granted at once when the port is free and no request waits, else it waits. -/
def requestPort (r : Requester) (s : State) : State :=
  if s.arb.held.isNone && s.arb.waiting.first.isNone then grantTo r s else s.setWaiting r true

/-- A request is dropped from the waiting set (R118). -/
def dropRequest (r : Requester) (s : State) : State := s.setWaiting r false

/-- The disturbances that waited for the end of a grant take effect (R116). -/
def applyDeferred (l : List (Bank × Nat × DisturbanceKind)) (s : State) : State :=
  l.foldl (fun t d => disturbCopy d.1 d.2.1 d.2.2 t) s

/-- The grant ends: deferred disturbances take effect, and the port goes to the waiting requester that stands first
(R116, R118). -/
def endGrant (s : State) : State :=
  let t := applyDeferred s.arb.deferred s
  let u := t.setArb { t.arb with held := none, deferred := [] }
  match u.arb.waiting.first with
  | none => u
  | some r => grantTo r u

/-- The grant in progress when its holder is the requester. -/
def State.grantOf (s : State) (r : Requester) : Option Grant :=
  match s.arb.held with
  | none => none
  | some g => if g.holder = r then some g else none

/-- Note how far the grant in progress has come (log 4). -/
def setProgress (g : Grant) (p : Progress) (s : State) : State :=
  s.setArb { s.arb with held := some { g with progress := p } }

/-- A disturbance from outside (R116): while a grant holds the copy's slot it waits for the grant's end, else it takes
effect at once. -/
def arriveDisturbance (b : Bank) (n : Nat) (kind : DisturbanceKind) (s : State) : State :=
  match s.arb.held with
  | none => disturbCopy b n kind s
  | some g =>
    if g.slot = some n then s.setArb { s.arb with deferred := s.arb.deferred ++ [(b, n, kind)] }
    else disturbCopy b n kind s

/-! ## The command in flight (R42) -/

/-- What a command in flight waits for or has. -/
inductive CommandWait
  | waitsForGrant
  | holdsGrant
  | waitsForClaim
  deriving DecidableEq, Repr

/-- Whether the command in flight waits for a grant, holds one, or waits for a claim (R42); none when no command is in
flight. -/
def State.commandWait (s : State) : Option CommandWait :=
  match s.cmd with
  | none => none
  | some _ =>
    if (s.grantOf .command).isSome then some .holdsGrant
    else if s.arb.waiting.command then some .waitsForGrant
    else some .waitsForClaim

/-- The result that the latest claim of a command in flight answered (R42): OK, but where a fetch command's attempt
has failed, whose re-check or withdrawal found the key no longer live in its slot (R36). Any other claim that does not
answer OK ends the command in the step that serves it. -/
def InFlight.claimResult : InFlight → ResultCode
  | .add _ _ => .ok
  | .amend _ _ _ => .ok
  | .retire _ _ _ => .ok
  | .fetch _ _ _ _ => .ok
  | .refetch _ _ _ => .unknownKey
  | .newDay _ => .ok
  | .storeState _ _ => .ok
  | .checkTest _ _ _ => .ok

/-- The rank that the latest claim of a command in flight answered (R42), where that claim answers a rank. -/
def InFlight.claimRank : InFlight → Option Nat
  | .add _ _ => none
  | .amend _ _ rank => some rank
  | .retire _ _ rank => some rank
  | .fetch _ _ _ rank => some rank
  | .refetch _ _ _ => none
  | .newDay _ => none
  | .storeState _ _ => none
  | .checkTest _ _ _ => none

/-! ## Completion -/

/-- The staging area as a completion leaves it: the outputs, every other byte 0x00; without outputs as it stood
(R156, R173). -/
def outputStaging (out : Option (List Byte)) (old : Vector Byte 32) : Vector Byte 32 :=
  match out with
  | none => old
  | some bytes => stagingOf bytes

/-- A command completes (R156): in one change its outputs are written, its result code becomes the last result code,
and BUSY becomes clear. A qualifying completion restarts the silence count and ends the stale condition (R158). -/
def complete (rc : ResultCode) (out : Option (List Byte)) (qualifies : Bool) (s : State) : State :=
  (s.setPort { s.port with
    staging := outputStaging out s.port.staging
    lastResult := rc
    silence := if qualifies then 0 else s.port.silence
    stale := if qualifies then false else s.port.stale }).setCmd none

/-- Completion with a result other than OK: no outputs, not qualifying (R22, R158). -/
def refuse (rc : ResultCode) (s : State) : State := complete rc none false s

/-- Completion with OK. -/
def done (out : Option (List Byte)) (qualifies : Bool) (s : State) : State := complete .ok out qualifies s

end Sys2Proof.Machine
end

