-- ==== Sys2Proof/Machine/Events.lean ====
section
/-!
DEFINITION. The commands of the Event Unit (10_events_and_captures.md).
-/

namespace Sys2Proof.Machine

/-- READ EVENTS after acceptance (R166). -/
def readEventsCommand (s : State) : State := done (some (eventsBytes s)) false s

/-- CLEAR EVENTS after acceptance (R166): the sticky flags named are cleared; a level flag follows its condition. -/
def clearEventsCommand (s : State) : State :=
  match s.stagedKinds 0 with
  | none => refuse .fieldRange s
  | some kinds => done none false (s.setEvents { s.events with sticky := s.events.sticky &&& ~~~kinds })

/-- SET MASKS after acceptance (R165). -/
def setMasksCommand (s : State) : State :=
  match s.stagedKinds 2, s.stagedKinds 4 with
  | some attention, some fault => done none false (s.setEvents { s.events with attention := attention, fault := fault })
  | _, _ => refuse .fieldRange s

/-- READ CAPTURE after acceptance (R169): 0 the first-fatal capture, 1 the first-error capture. -/
def readCaptureCommand (s : State) : State :=
  match s.place 0 with
  | 0 => done (some (captureBytes s.events.firstFatal)) false s
  | 1 => done (some (captureBytes s.events.firstError)) false s
  | _ => refuse .fieldRange s

/-- CLEAR CAPTURE after acceptance (R169): 0 the first-fatal capture, 1 the first-error capture, 2 both. -/
def clearCaptureCommand (s : State) : State :=
  match s.place 0 with
  | 0 => done none false (s.setEvents { s.events with firstFatal := none })
  | 1 => done none false (s.setEvents { s.events with firstError := none })
  | 2 => done none false (s.setEvents { s.events with firstFatal := none, firstError := none })
  | _ => refuse .fieldRange s

end Sys2Proof.Machine
end

