-- ==== Sys2Proof/Machine/Bodies.lean ====
section
/-!
DEFINITION. Reading and writing record bodies within a grant, with the handling of every store state
(07_record_memory_and_store_states.md), withdrawal, bank loss, store failure, and the end of a rebuild.
-/

namespace Sys2Proof.Machine

/-- The states in which records are served (R14, R20). -/
def serves : StoreState → Bool
  | .single => true
  | .mirrored => true
  | .rebuilding => true
  | .degraded => true
  | .uninit => false
  | .clearing => false
  | .ready => false
  | .failed => false

/-- The store serves records. -/
def State.serving (s : State) : Bool := serves s.store.state

/-- The states in which an enabled sweep runs (R143). -/
def sweepRunsIn : StoreState → Bool
  | .single => true
  | .mirrored => true
  | .degraded => true
  | .rebuilding => false
  | .uninit => false
  | .clearing => false
  | .ready => false
  | .failed => false

/-- The sweep runs while P6 is 1 and the store is SINGLE, MIRRORED or DEGRADED (R143). -/
def State.sweepRuns (s : State) : Bool := s.params.sweepEnable == 1 && sweepRunsIn s.store.state

/-- The sweep timer is set to P7 (R143, R144). -/
def setSweepTimer (s : State) : State := s.setSweep { s.sweep with timer := some s.params.sweepInterval }

/-- The sweep starts to run if it may, its timer set to P7 and its cursor kept (R143). -/
def startSweep (s : State) : State := if s.sweepRuns then setSweepTimer s else s

/-- The sweep stops or pauses: its timer stops and a waiting request is dropped; the cursor is kept (R143). -/
def stopSweep (s : State) : State := dropRequest .sweep (s.setSweep { s.sweep with timer := none })

/-- Replace the store state alone. -/
def State.setStoreState (v : StoreState) (s : State) : State := s.setStore { s.store with state := v }

/-- The key of the live record in a slot, if any: what a capture records for a command's or a composer's access to it
(R168; log 9). -/
def liveKeyAt (slot : Nat) (s : State) : Option Nat := slotQuery slot s

/-- The key that the capture of a bank loss or a store failure at a read records: for the copier and the sweep the key
that their slot query answered (R136 step 3, R144 step 3), for any other reader the key of the live record in the slot,
if any (R168; log 9). -/
def readKey (op : Operation) (slot key : Nat) (s : State) : Option Nat :=
  match op with
  | .rebuild => some key
  | .sweep => some key
  | .command => liveKeyAt slot s
  | .compose => liveKeyAt slot s
  | .port => liveKeyAt slot s
  | .link => liveKeyAt slot s

/-- The store fails (R128): FAILED with the primary and failed banks kept, the empty claim, a rebuild abandoned, the
sweep stopped, STORE_FAILED raised with the key given. `bank` is the bank whose verify failed, none when both failed at
one write. -/
def failStore (bank : Option Bank) (slot : Nat) (key : Option Nat) (op : Operation) (s : State) : State :=
  let t := (emptyClaim (s.setStore { s.store with state := .failed, origin := none })).2
  raiseEvent .storeFailed (some slot) key bank none op (stopSweep (dropRequest .copier t))

/-- A bank is lost while the store is MIRRORED (R127): DEGRADED, the other bank primary when the primary was lost,
BANK_LOST raised with the key given. -/
def loseBank (lost : Bank) (slot : Nat) (key : Option Nat) (op : Operation) (s : State) : State :=
  let primary := if s.store.primary = lost then otherBank lost else s.store.primary
  raiseEvent .bankLost (some slot) key (some lost) none op
    (s.setStore { s.store with state := .degraded, primary := primary, failedBank := some lost })

/-- The store leaves REBUILDING for its origin (R138, R141): origin absent, cursor kept, a waiting copier request
dropped, the sweep resumed. -/
def returnToOrigin (s : State) : State :=
  startSweep (dropRequest .copier (s.setStore { s.store with state := s.store.origin.getD .single, origin := none }))

/-- A target verify fails (R138): the store returns to its origin and REBUILD_FAILED is raised with the target bank. -/
def failRebuild (slot : Nat) (op : Operation) (s : State) : State :=
  let key := liveKeyAt slot s
  let target := otherBank s.store.primary
  raiseEvent .rebuildFailed (some slot) key (some target) none op (returnToOrigin s)

/-- What a body read answers (R25, R82, R120). -/
inductive ReadAnswer
  | body (r : RecordBody) (s : State)
  | withdrawn (s : State)
  | gone (s : State)
  | failed (s : State)
  | notServing (s : State)

/-- The state that a read leaves, whatever it answers. -/
def ReadAnswer.after : ReadAnswer → State
  | .body _ s => s
  | .withdrawn s => s
  | .gone s => s
  | .failed s => s
  | .notServing s => s

/-- A withdrawal (R126): the remove claim of R17 with the key and slot the requester gave; WITHDRAWN when it removes
the record, nothing when the record had left. No copy is written. -/
def withdraw (op : Operation) (slot key : Nat) (s : State) : ReadAnswer :=
  match entryAt key slot s with
  | none => .gone s
  | some e =>
    .withdrawn (raiseEvent .withdrawn (some slot) (some key) (some s.store.primary) none op (removeEntry e s))

/-- A CORRECTABLE copy is rewritten and verified: CORRECTED (R121, R122, R145). -/
def correctCopy (b : Bank) (slot key : Nat) (op : Operation) (s : State) : State :=
  raiseEvent .corrected (some slot) (some key) (some b) none op (writeCopy b slot (s.copy b slot).contents s)

/-- A read of the primary copy alone: SINGLE, DEGRADED, and the source of REBUILDING (R121, R124). -/
def readPrimary (op : Operation) (slot key : Nat) (s : State) : ReadAnswer :=
  let p := s.store.primary
  let c := s.copy p slot
  match c.check with
  | .good => .body (bodyOf p slot c.contents) s
  | .correctable =>
    if c.stuck then .failed (failStore (some p) slot (readKey op slot key s) op (writeCopy p slot c.contents s))
    else .body (bodyOf p slot c.contents) (correctCopy p slot key op s)
  | .uncorrectable => withdraw op slot key s

/-- The repair of an UNCORRECTABLE primary copy from the secondary (R123): both copies written, both verified. -/
def repair (op : Operation) (slot key : Nat) (s : State) : ReadAnswer :=
  let p := s.store.primary
  let q := otherBank p
  let v := (s.copy q slot).contents
  let r := bodyOf q slot v
  let t := writeCopy q slot v (writeCopy p slot v s)
  match (s.copy p slot).stuck, (s.copy q slot).stuck with
  | false, false => .body r (raiseEvent .repaired (some slot) (some key) (some p) none op t)
  | true, false => .body r (loseBank p slot (readKey op slot key s) op t)
  | false, true => .body r (loseBank q slot (readKey op slot key s) op t)
  | true, true => .failed (failStore none slot (readKey op slot key s) op t)

/-- A demand read in MIRRORED (R122, R123). -/
def readMirrored (op : Operation) (slot key : Nat) (s : State) : ReadAnswer :=
  let p := s.store.primary
  let c := s.copy p slot
  match c.check with
  | .good => .body (bodyOf p slot c.contents) s
  | .correctable =>
    if c.stuck then
      .body (bodyOf p slot c.contents) (loseBank p slot (readKey op slot key s) op (writeCopy p slot c.contents s))
    else .body (bodyOf p slot c.contents) (correctCopy p slot key op s)
  | .uncorrectable =>
    if (s.copy (otherBank p) slot).check = .uncorrectable then withdraw op slot key s else repair op slot key s

/-- A demand read within a grant, by the store state in force at it (R120 to R124). -/
def readBody (op : Operation) (slot key : Nat) (s : State) : ReadAnswer :=
  match s.store.state with
  | .single => readPrimary op slot key s
  | .degraded => readPrimary op slot key s
  | .rebuilding => readPrimary op slot key s
  | .mirrored => readMirrored op slot key s
  | .uninit => .notServing s
  | .clearing => .notServing s
  | .ready => .notServing s
  | .failed => .notServing s

/-- What a body write answers (R25, R120). -/
inductive WriteAnswer
  | stored (s : State)
  | failed (s : State)
  | notServing (s : State)

/-- The state that a write leaves, whatever it answers. -/
def WriteAnswer.after : WriteAnswer → State
  | .stored s => s
  | .failed s => s
  | .notServing s => s

/-- A write to the primary copy alone (R125): SINGLE, DEGRADED, and REBUILDING at or above the cursor. -/
def writePrimary (op : Operation) (slot : Nat) (v : Contents) (s : State) : WriteAnswer :=
  let p := s.store.primary
  let t := writeCopy p slot v s
  if (s.copy p slot).stuck then .failed (failStore (some p) slot (liveKeyAt slot s) op t) else .stored t

/-- A write to both copies in MIRRORED (R125): both written and both verified. -/
def writeMirrored (op : Operation) (slot : Nat) (v : Contents) (s : State) : WriteAnswer :=
  let p := s.store.primary
  let q := otherBank p
  let t := writeCopy q slot v (writeCopy p slot v s)
  match (s.copy p slot).stuck, (s.copy q slot).stuck with
  | false, false => .stored t
  | true, false => .stored (loseBank p slot (liveKeyAt slot s) op t)
  | false, true => .stored (loseBank q slot (liveKeyAt slot s) op t)
  | true, true => .failed (failStore none slot (liveKeyAt slot s) op t)

/-- A write below the rebuild cursor (R125, R138, R140): source and target; a failed source verify fails the store,
a failed target verify alone ends the rebuild. -/
def writeBelowCursor (op : Operation) (slot : Nat) (v : Contents) (s : State) : WriteAnswer :=
  let p := s.store.primary
  let q := otherBank p
  let t := writeCopy q slot v (writeCopy p slot v s)
  match (s.copy p slot).stuck, (s.copy q slot).stuck with
  | false, false => .stored t
  | true, false => .failed (failStore (some p) slot (liveKeyAt slot s) op t)
  | false, true => .stored (failRebuild slot op t)
  | true, true => .failed (failStore none slot (liveKeyAt slot s) op t)

/-- A body write within a grant, by the store state in force at it (R120, R125, R140). -/
def writeBody (op : Operation) (slot : Nat) (r : RecordBody) (s : State) : WriteAnswer :=
  match s.store.state with
  | .single => writePrimary op slot (.body r) s
  | .degraded => writePrimary op slot (.body r) s
  | .mirrored => writeMirrored op slot (.body r) s
  | .rebuilding =>
    if slot < s.store.rebuildCursor then writeBelowCursor op slot (.body r) s else writePrimary op slot (.body r) s
  | .uninit => .notServing s
  | .clearing => .notServing s
  | .ready => .notServing s
  | .failed => .notServing s

end Sys2Proof.Machine
end

