-- ==== Sys2Proof/Machine/Rebuild.lean ====
section
/-!
DEFINITION. The rebuild copier (08_rebuild_and_sweep.md, 8.2).
-/

namespace Sys2Proof.Machine

/-- The bank being made fit to serve (R135). -/
def State.targetBank (s : State) : Bank := otherBank s.store.primary

/-- A rebuild completes (R139): MIRRORED, REBUILD_DONE, the sweep resumes. -/
def completeRebuild (s : State) : State :=
  startSweep (raiseEvent .rebuildDone none none none none .rebuild
    (s.setStore { s.store with state := .mirrored, failedBank := none, origin := none, rebuildCursor := Config.slots }))

/-- The verify of the copier's target write passes (R136 step 5): the cursor goes on; at 256 the rebuild completes,
else the grant ends and the copier requests its next. -/
def copierAdvance (slot : Nat) (s : State) : State :=
  if slot + 1 = Config.slots then endGrant (completeRebuild s)
  else requestPort .copier (endGrant (s.setStore { s.store with rebuildCursor := slot + 1 }))

/-- The copier's target write and its verify (R136 steps 4 to 6). -/
def copierWrite (slot : Nat) (v : Contents) (s : State) : State :=
  let t := writeCopy s.targetBank slot v s
  if (s.copy s.targetBank slot).stuck then endGrant (failRebuild slot .rebuild t) else copierAdvance slot t

/-- The copier's read and write, once the slot query has answered (R136, R137). What is written to the target of a
slot that was read is what the source copy holds: a correction leaves it as it was. The read and the write stand in one
step (DESIGN CHOICE, log 23). -/
def copierAccess (slot : Nat) (live : Option Nat) (s : State) : State :=
  match live with
  | none => copierWrite slot .free s
  | some key =>
    match readPrimary .rebuild slot key s with
    | .body _ t => copierWrite slot (s.copy s.store.primary slot).contents t
    | .withdrawn t => copierWrite slot .free t
    | .gone t => copierWrite slot .free t
    | .failed t => endGrant t
    | .notServing t => endGrant t

/-- The copier's grant on a slot (R136): the slot query is its first act (R134). -/
def copierWork (x : Extent) (g : Grant) (slot : Nat) (s : State) : State :=
  match g.progress with
  | .queried live => copierAccess slot live s
  | .accessed _ _ => s
  | .begun =>
    match x with
    | .whole => copierAccess slot (slotQuery slot s) s
    | .firstPart => setProgress g (.queried (slotQuery slot s)) s

/-- One step of the copier's grant; nothing when it holds none (log 2). Its requests are dropped when the store
leaves REBUILDING, so the grant of another state, which only ends, is not met (log 18). -/
def copierGrantStep (x : Extent) (s : State) : State :=
  match s.grantOf .copier with
  | none => s
  | some g =>
    if s.store.state = .rebuilding then
      match g.slot with
      | none => s
      | some slot => copierWork x g slot s
    else endGrant s

end Sys2Proof.Machine
end

