-- ==== Sys2Proof/Machine/Sweep.lean ====
section
/-!
DEFINITION. The sweep (08_rebuild_and_sweep.md, 8.3).
-/

namespace Sys2Proof.Machine

/-- The next slot of the sweep range after slot `n` (R142). -/
def nextSweepSlot (p : Params) (n : Nat) : Nat :=
  if n = p.sweepLast then p.sweepFirst else if 255 ≤ n then 0 else n + 1

/-- The sweep timer expires (R144): it stops and the Sweep Unit requests a grant; nothing while it is stopped
(log 2). -/
def sweepExpiryStep (s : State) : State :=
  match s.sweep.timer with
  | none => s
  | some _ => requestPort .sweep (s.setSweep { s.sweep with timer := none })

/-- The cursor at the end of a step on slot `n` (R144 step 4, R146). -/
def sweepMoved (n : Nat) (s : State) : State :=
  s.setSweep { s.sweep with
    cursor := if s.sweep.setAnew then s.sweep.cursor else nextSweepSlot s.params n, setAnew := false }

/-- A sweep step ends (R144): the cursor moves, the grant ends, and the timer starts again if the sweep runs. -/
def endSweepStep (n : Nat) (s : State) : State := startSweep (endGrant (sweepMoved n s))

/-- The sweep writes the secondary copy from a good value and verifies it (R145): on a pass the event given, on a
failure the secondary bank is lost, with the key that the slot query answered (R144 step 3). -/
def sweepRewrite (slot key : Nat) (v : Contents) (passed : State → State) (s : State) : State :=
  let q := otherBank s.store.primary
  let t := writeCopy q slot v s
  if (s.copy q slot).stuck then loseBank q slot (some key) .sweep t else passed t

/-- The secondary copy of a sweep step in MIRRORED (R145). -/
def sweepSecondary (slot key : Nat) (s : State) : State :=
  let p := s.store.primary
  let q := otherBank p
  match (s.copy q slot).check with
  | .good => s
  | .correctable =>
    sweepRewrite slot key (s.copy q slot).contents (raiseEvent .corrected (some slot) (some key) (some q) none .sweep) s
  | .uncorrectable =>
    sweepRewrite slot key (s.copy p slot).contents (raiseEvent .repaired (some slot) (some key) (some p) none .sweep) s

/-- The sweep reads a live slot of a MIRRORED store (R145): the primary as a demand read, then the secondary when the
store is still MIRRORED and the secondary has not been written in this grant, as a repair of the primary writes it. The
two stand in one step (DESIGN CHOICE, log 23). -/
def sweepMirrored (slot key : Nat) (s : State) : State :=
  match readMirrored .sweep slot key s with
  | .body _ t =>
    if t.store.state = .mirrored ∧ (s.copy s.store.primary slot).check ≠ .uncorrectable then
      endSweepStep slot (sweepSecondary slot key t)
    else endSweepStep slot t
  | .withdrawn t => endSweepStep slot t
  | .gone t => endSweepStep slot t
  | .failed t => endGrant t
  | .notServing t => endGrant t

/-- The sweep reads a live slot of a SINGLE or DEGRADED store (R145). -/
def sweepPrimary (slot key : Nat) (s : State) : State :=
  match readPrimary .sweep slot key s with
  | .body _ t => endSweepStep slot t
  | .withdrawn t => endSweepStep slot t
  | .gone t => endSweepStep slot t
  | .failed t => endGrant t
  | .notServing t => endGrant t

/-- The sweep's read of a live slot, by the store state. A sweep grant is not met in the states in which the sweep
does not run (log 18). -/
def sweepLive (slot key : Nat) (s : State) : State :=
  match s.store.state with
  | .single => sweepPrimary slot key s
  | .degraded => sweepPrimary slot key s
  | .mirrored => sweepMirrored slot key s
  | .rebuilding => endGrant s
  | .uninit => endGrant s
  | .clearing => endGrant s
  | .ready => endGrant s
  | .failed => endGrant s

/-- The sweep's access, once the slot query has answered (R144 steps 2 and 3). -/
def sweepAccess (slot : Nat) (live : Option Nat) (s : State) : State :=
  match live with
  | none => endSweepStep slot s
  | some key => sweepLive slot key s

/-- The sweep's grant on a slot (R144): the slot query is its first act (R134). -/
def sweepWork (x : Extent) (g : Grant) (slot : Nat) (s : State) : State :=
  match g.progress with
  | .queried live => sweepAccess slot live s
  | .accessed _ _ => s
  | .begun =>
    match x with
    | .whole => sweepAccess slot (slotQuery slot s) s
    | .firstPart => setProgress g (.queried (slotQuery slot s)) s

/-- One step of the sweep's grant; nothing when it holds none (log 2). -/
def sweepGrantStep (x : Extent) (s : State) : State :=
  match s.grantOf .sweep with
  | none => s
  | some g =>
    match g.slot with
    | none => s
    | some slot => sweepWork x g slot s

end Sys2Proof.Machine
end

