-- ==== Sys2Proof/Machine/RecordCommands.lean ====
section
/-!
DEFINITION. The record commands and their grants (02_record_commands.md): what each does once the Control Port has
accepted it, and what its grant does.
-/

namespace Sys2Proof.Machine

/-! ## Common matter -/

/-- The result of a phrase test (R24): none when it is passed. -/
def phraseTest (n : Nat) (s : State) : Option ResultCode :=
  match (s.phrase n).state with
  | .defined => none
  | .free => some .unknownPhrase
  | .retiring => some .phraseRetiring

/-- The phrase tests of ADD and AMEND (R24): the destination first, then the via when it is to be present. -/
def phraseTests (destination via : Option Nat) (s : State) : Option ResultCode :=
  match destination.bind (fun n => phraseTest n s) with
  | some rc => some rc
  | none => via.bind fun n => phraseTest n s

/-- Hold a command in flight and request its grant (R42, R118). -/
def holdForGrant (c : InFlight) (s : State) : State := requestPort .command (s.setCmd (some c))

/-- A command's grant step ends the command and then its grant. -/
def completeGrant (rc : ResultCode) (out : Option (List Byte)) (qualifies : Bool) (s : State) : State :=
  endGrant (complete rc out qualifies s)

/-- A command's grant step ends the command with a result other than OK, and then its grant. -/
def refuseGrant (rc : ResultCode) (s : State) : State := endGrant (refuse rc s)

/-! ## ADD -/

/-- ADD after acceptance (R27): its tests in order, then a grant on the chosen slot. A claim served while the
Directory is closed ends a record command with NOT_SERVING (R21). -/
def addCommand (s : State) : State :=
  if !s.serving then refuse .notServing s
  else if !s.addInRange then refuse .fieldRange s
  else
    match phraseTests (some s.stagedBody.destination) s.stagedBody.via s with
    | some rc => refuse rc s
    | none =>
      if !s.dir.isOpen then refuse .notServing s
      else if (lookupKey s.stagedKey s).isSome then refuse .duplicateKey s
      else
        match chooseSlot s with
        | none => refuse .tableFull s
        | some slot => holdForGrant (.add s.stagedKey slot) s

/-- ADD's insert claim and completion (R28, R29). The refusals of a live key or a taken slot never arise (log 17). -/
def addInsert (slot : Nat) (r : RecordBody) (s : State) : State :=
  match insertClaim (entryOf r slot) s with
  | .served rank t => completeGrant .ok (some (addBytes slot rank)) true t
  | .closed => refuseGrant .notServing s
  | .keyLive => refuseGrant .duplicateKey s
  | .slotTaken => refuseGrant .tableFull s

/-- ADD's grant (R28): write the body, then the insert claim. -/
def addGrantWork (x : Extent) (g : Grant) (slot : Nat) (s : State) : State :=
  match g.progress with
  | .accessed r _ => addInsert slot r s
  | .queried _ => s
  | .begun =>
    match writeBody .command slot s.stagedBody s with
    | .notServing t => refuseGrant .notServing t
    | .failed t => refuseGrant .notServing t
    | .stored t =>
      match x with
      | .whole => addInsert slot s.stagedBody t
      | .firstPart => setProgress g (.accessed s.stagedBody false) t

/-- One step of ADD's grant; nothing when no such grant is in progress (log 2). -/
def addGrantStep (x : Extent) (s : State) : State :=
  match s.cmd, s.grantOf .command with
  | some (.add _ slot), some g => addGrantWork x g slot s
  | _, _ => s

/-! ## AMEND -/

/-- AMEND after acceptance (R31): its tests in order, then a grant on the slot found. -/
def amendCommand (s : State) : State :=
  if !s.serving then refuse .notServing s
  else if s.place 15 = 0 then refuse .fieldRange s
  else if !s.amendInRange then refuse .fieldRange s
  else
    match phraseTests (if s.selects .destination then some s.stagedBody.destination else none)
        (if s.selects .via then s.stagedBody.via else none) s with
    | some rc => refuse rc s
    | none =>
      if !s.dir.isOpen then refuse .notServing s
      else
        match lookupKey s.stagedKey s with
        | none => refuse .unknownKey s
        | some e =>
          if s.selects .status && e.status == .departed then refuse .statusFinal s
          else holdForGrant (.amend e.key e.slot (rankOf e.key s)) s

/-- AMEND's update claim and completion (R32 step 4, R33, R34). -/
def amendUpdate (key slot : Nat) (r : RecordBody) (s : State) : State :=
  match updateClaim key slot (entryOf r slot) s with
  | .served rank t => completeGrant .ok (some (amendBytes r.amendments slot rank)) true t
  | .notPresent => refuseGrant .unknownKey s
  | .closed => refuseGrant .notServing s

/-- AMEND writes the changed body back (R32 step 3). -/
def amendWrite (x : Extent) (g : Grant) (key slot : Nat) (r : RecordBody) (s : State) : State :=
  match writeBody .command slot r s with
  | .notServing t => refuseGrant .notServing t
  | .failed t => refuseGrant .notServing t
  | .stored t =>
    match x with
    | .whole => amendUpdate key slot r t
    | .firstPart => setProgress g (.accessed r false) t

/-- AMEND's grant (R32): read, change, write back, update claim. The read and the write-back stand in one step, where
R13 and R119 let claims of others come between them (DESIGN CHOICE, log 23). -/
def amendGrantWork (x : Extent) (g : Grant) (key slot : Nat) (s : State) : State :=
  match g.progress with
  | .accessed r _ => amendUpdate key slot r s
  | .queried _ => s
  | .begun =>
    match readBody .command slot key s with
    | .body r t => amendWrite x g key slot (t.amended r) t
    | .withdrawn t => refuseGrant .withdrawn t
    | .gone t => refuseGrant .unknownKey t
    | .failed t => refuseGrant .notServing t
    | .notServing t => refuseGrant .notServing t

/-- One step of AMEND's grant; nothing when no such grant is in progress (log 2). -/
def amendGrantStep (x : Extent) (s : State) : State :=
  match s.cmd, s.grantOf .command with
  | some (.amend key slot _), some g => amendGrantWork x g key slot s
  | _, _ => s

/-! ## RETIRE and KEEPALIVE -/

/-- RETIRE's lookup at its acceptance (R35 steps 1 and 2), when its remove claim is served apart (log 4): RETIRE is then
in flight with the key, slot and rank that the lookup answered (R36, R42). -/
def retireLookup (s : State) : State :=
  if !s.serving then refuse .notServing s
  else if !s.dir.isOpen then refuse .notServing s
  else
    match lookupKey s.stagedKey s with
    | none => refuse .unknownKey s
    | some e => s.setCmd (some (.retire e.key e.slot (rankOf e.key s)))

/-- RETIRE's remove claim on what its lookup answered (R35 step 3). -/
def retireRemove (key slot : Nat) (s : State) : State :=
  if !s.dir.isOpen then refuse .notServing s
  else
    match entryAt key slot s with
    | none => refuse .unknownKey s
    | some e => done none true (removeEntry e s)

/-- The remove claim of a RETIRE in flight; nothing when none is (log 2). -/
def retireRemoveStep (s : State) : State :=
  match s.cmd with
  | some (.retire key slot _) => retireRemove key slot s
  | _ => s

/-- RETIRE after acceptance (R35): lookup and remove, with no grant. -/
def retireCommand (s : State) : State :=
  if !s.serving then refuse .notServing s
  else if !s.dir.isOpen then refuse .notServing s
  else
    match lookupKey s.stagedKey s with
    | none => refuse .unknownKey s
    | some e => done none true (removeEntry e s)

/-- KEEPALIVE after acceptance (R41). -/
def keepaliveCommand (s : State) : State := done none true s

/-! ## The fetch commands -/

/-- A fetch command's find claim (R36). -/
def findRecord : Find → State → Option Entry
  | .byKey key, s => lookupKey key s
  | .byRank rank, s => lookupRank rank s
  | .after pos, s => nextAfter pos anyEntry s

/-- The result of a find claim that finds nothing (R37 to R39). -/
def nothingFound : Find → ResultCode
  | .byKey _ => .unknownKey
  | .byRank _ => .noSuchRank
  | .after _ => .endOfOrder

/-- An attempt begins (R36): the find claim, then a grant on the slot it gave. A claim served while the Directory is
closed ends the command with NOT_SERVING (R21). -/
def beginAttempt (how : Find) (s : State) : State :=
  if !s.dir.isOpen then refuse .notServing s
  else
    match findRecord how s with
    | none => refuse (nothingFound how) s
    | some e => holdForGrant (.fetch how e.key e.slot (rankOf e.key s)) s

/-- FETCH after acceptance (R37). -/
def fetchCommand (s : State) : State :=
  if !s.serving then refuse .notServing s else beginAttempt (.byKey s.stagedKey) s

/-- FETCH RANK after acceptance (R38). -/
def fetchRankCommand (s : State) : State :=
  if !s.serving then refuse .notServing s else beginAttempt (.byRank (s.word 18)) s

/-- FIND NEXT after acceptance (R39): store state, the time's range, then an attempt. -/
def findNextCommand (s : State) : State :=
  if !s.serving then refuse .notServing s
  else if !timeOk (s.word 2) then refuse .fieldRange s
  else beginAttempt (.after s.stagedPosition) s

/-- The grant of a failed attempt ends and a new attempt is due (R36): its find claim follows in the same step, or,
where the step stops there, in a later one, so that the claims of other requesters may be served before it (R13, log
4). -/
def attemptAnew (x : Extent) (how : Find) (key slot : Nat) (s : State) : State :=
  let t := endGrant (s.setCmd (some (.refetch how key slot)))
  match x with
  | .whole => beginAttempt how t
  | .firstPart => t

/-- A failed attempt (R36): FETCH ends UNKNOWN_KEY, the others begin a new attempt, once the grant has ended. -/
def attemptFailed (x : Extent) (how : Find) (key slot : Nat) (s : State) : State :=
  match how with
  | .byKey _ => refuseGrant .unknownKey s
  | .byRank _ => attemptAnew x how key slot s
  | .after _ => attemptAnew x how key slot s

/-- The re-check claim (R36): the key live in the same slot returns the record (R40). -/
def fetchRecheck (x : Extent) (how : Find) (key slot : Nat) (r : RecordBody) (s : State) : State :=
  if !s.dir.isOpen then refuseGrant .notServing s
  else
    match entryAt key slot s with
    | some e => completeGrant .ok (some (recordBytes r e.slot (rankOf e.key s))) false s
    | none => attemptFailed x how key slot s

/-- A fetch command's grant (R36): read, re-check. -/
def fetchGrantWork (x : Extent) (g : Grant) (how : Find) (key slot : Nat) (s : State) : State :=
  match g.progress with
  | .accessed r _ => fetchRecheck x how key slot r s
  | .queried _ => s
  | .begun =>
    match readBody .command slot key s with
    | .body r t =>
      match x with
      | .whole => fetchRecheck .whole how key slot r t
      | .firstPart => setProgress g (.accessed r false) t
    | .withdrawn t => refuseGrant .withdrawn t
    | .gone t => attemptFailed x how key slot t
    | .failed t => refuseGrant .notServing t
    | .notServing t => refuseGrant .notServing t

/-- One step of a fetch command: of its grant, or the find claim of a new attempt that a step before has left due;
nothing when there is neither (log 2). -/
def fetchGrantStep (x : Extent) (s : State) : State :=
  match s.cmd, s.grantOf .command with
  | some (.fetch how key slot _), some g => fetchGrantWork x g how key slot s
  | some (.refetch how _ _), _ => beginAttempt how s
  | _, _ => s

end Sys2Proof.Machine
end

