-- ==== Sys2Proof/Machine/Clock.lean ====
section
/-!
DEFINITION. The Service Clock, the Retirement Unit and NEW DAY (04_service_clock_and_retirement.md).
-/

namespace Sys2Proof.Machine

/-! ## Passes -/

/-- A pass is requested (R60): it starts at (0, 0) when the unit is IDLE and the day-change hold is clear, and is
left pending otherwise. -/
def requestPass (s : State) : State :=
  if s.retire.pass.isNone && !s.clock.hold then s.setRetire { s.retire with pass := some frontPos }
  else s.setRetire { s.retire with pending := true }

/-- The pending pass, if any, starts from (0, 0); with none pending the unit is IDLE (R63, R69). -/
def startPendingPass (s : State) : State :=
  s.setRetire { pass := if s.retire.pending then some frontPos else none, pending := false }

/-- A pass ends (R63). With the day-change hold set, which cannot arise here, a pending pass waits for the hold. -/
def endPass (s : State) : State :=
  if s.clock.hold then s.setRetire { s.retire with pass := none } else startPendingPass s

/-- The linger of a status: P0, P1 or P2 (R5, R62). -/
def lingerOf (p : Params) : Status → Nat
  | .planned => p.overdueGrace
  | .boarding => p.overdueGrace
  | .departed => p.departedLinger
  | .cancelled => p.cancelledLinger

/-- An entry is due when it is not held and its retire time is at or before the current minute (R5, R62). -/
def isDue (e : Entry) (s : State) : Bool :=
  !e.held && e.effective + lingerOf s.params e.status ≤ s.clock.minute

/-- The look of a step at the entry it found, whose effective time does not exceed the minute (R61). -/
def passLooksAt (e : Entry) (s : State) : State :=
  let t := if isDue e s then removeEntry e s else s
  t.setRetire { t.retire with pass := some (entryPos e) }

/-- One step of a retirement pass (R61); nothing while the unit is IDLE (log 2). -/
def passStep (s : State) : State :=
  match s.retire.pass with
  | none => s
  | some pos =>
    match nextAfter pos anyEntry s with
    | none => endPass s
    | some e => if s.clock.minute < e.effective then endPass s else passLooksAt e s

/-! ## The clock -/

/-- SET CLOCK after acceptance (R59). -/
def setClockCommand (s : State) : State :=
  if timeOk (s.word 0) then
    done none true (requestPass (s.setClock { s.clock with minute := s.word 0, seconds := 0, isSet := true }))
  else refuse .fieldRange s

/-- A minute advance is due at a minute boundary: the clock set, and the minute below 2879 (R57). -/
def State.minuteCanAdvance (s : State) : Bool := s.clock.isSet && s.clock.minute < Config.lastMinute

/-- A minute boundary (R57). -/
def minuteBoundary (s : State) : State :=
  if s.minuteCanAdvance then requestPass (s.setClock { s.clock with minute := s.clock.minute + 1, seconds := 0 })
  else s.setClock { s.clock with seconds := 0 }

/-- The Service Clock's share of a second tick (R57). -/
def clockTick (s : State) : State :=
  if s.clock.seconds < 59 then s.setClock { s.clock with seconds := s.clock.seconds + 1 } else minuteBoundary s

/-- The row MINUTE_ADVANCE (R57, log 7): the Service Clock's share of a tick that makes a minute advance; nothing
where no advance is due (log 2). -/
def minuteAdvanceStep (s : State) : State :=
  if s.clock.seconds = 59 ∧ s.minuteCanAdvance then minuteBoundary s else s

/-! ## NEW DAY -/

/-- What NEW DAY holds at its acceptance (R65, R66). -/
def newDayStart (s : State) : NewDay :=
  { minute := s.clock.minute - Config.dayMinutes, visit := frontPos, rebase := none, retired := 0, rebased := 0,
    clamped := 0, withdrawn := 0 }

/-- NEW DAY after acceptance (R65): its tests in order, then the change of day. -/
def newDayCommand (s : State) : State :=
  if !s.clock.isSet then refuse .clockUnset s
  else if s.clock.minute < Config.dayMinutes then refuse .tooEarly s
  else
    ((s.setClock { s.clock with minute := s.clock.minute - Config.dayMinutes, hold := true }).setRetire
      { pass := none, pending := true }).setCmd (some (.newDay (newDayStart s)))

/-- NEW DAY in flight goes on with its record `d`. -/
def holdNewDay (d : NewDay) (s : State) : State := s.setCmd (some (.newDay d))

/-- NEW DAY completes (R68): the hold clears and the pending pass starts (R69). -/
def newDayEnd (d : NewDay) (s : State) : State :=
  done (some (newDayBytes d)) true (startPendingPass (s.setClock { s.clock with hold := false }))

/-- A visit claim (R66). -/
def newDayVisitClaim (d : NewDay) (s : State) : State :=
  match nextAfter d.visit anyEntry s with
  | none => newDayEnd d s
  | some e =>
    if e.effective < Config.dayMinutes then
      holdNewDay { d with visit := entryPos e, retired := d.retired + 1 } (removeEntry e s)
    else holdForGrant (.newDay { d with visit := entryPos e, rebase := some (e.key, e.slot) }) s

/-- One visit of NEW DAY; nothing while NEW DAY is not in flight or awaits a rebase grant (log 2). -/
def newDayVisitStep (s : State) : State :=
  match s.cmd with
  | some (.newDay d) =>
    match d.rebase with
    | none => newDayVisitClaim d s
    | some _ => s
  | _ => s

/-- The body with its times one day earlier, and whether the scheduled time was clamped (R67 step 2). -/
def rebasedBody (r : RecordBody) : RecordBody × Bool :=
  match r.expected with
  | none => ({ r with scheduled := r.scheduled - Config.dayMinutes }, false)
  | some m =>
    if Config.dayMinutes ≤ r.scheduled then
      ({ r with expected := some (m - Config.dayMinutes), scheduled := r.scheduled - Config.dayMinutes }, false)
    else ({ r with expected := some (m - Config.dayMinutes), scheduled := 0, carried := true }, true)

/-- A rebase is over: NEW DAY goes on to its next visit, and the grant ends (R68). -/
def nextVisit (d : NewDay) (s : State) : State := endGrant (holdNewDay { d with rebase := none } s)

/-- The update claim of a rebase (R67 step 4, R68). -/
def rebaseUpdate (d : NewDay) (key slot : Nat) (r : RecordBody) (clamped : Bool) (s : State) : State :=
  match updateClaim key slot (entryOf r slot) s with
  | .served _ t => nextVisit { d with rebased := d.rebased + 1, clamped := d.clamped + (if clamped then 1 else 0) } t
  | .notPresent => nextVisit d s
  | .closed => nextVisit d s

/-- A rebase writes the body back (R67 step 3, R68). -/
def rebaseWrite (x : Extent) (g : Grant) (d : NewDay) (key slot : Nat) (r : RecordBody) (clamped : Bool)
    (s : State) : State :=
  match writeBody .command slot r s with
  | .notServing t => nextVisit d t
  | .failed t => nextVisit d t
  | .stored t =>
    match x with
    | .whole => rebaseUpdate d key slot r clamped t
    | .firstPart => setProgress g (.accessed r clamped) t

/-- The rebase grant (R67, R68). Its read and its write-back stand in one step (DESIGN CHOICE, log 23). -/
def rebaseGrantWork (x : Extent) (g : Grant) (d : NewDay) (key slot : Nat) (s : State) : State :=
  match g.progress with
  | .accessed r clamped => rebaseUpdate d key slot r clamped s
  | .queried _ => s
  | .begun =>
    match readBody .command slot key s with
    | .body r t => rebaseWrite x g d key slot (rebasedBody r).1 (rebasedBody r).2 t
    | .withdrawn t => nextVisit { d with withdrawn := d.withdrawn + 1 } t
    | .gone t => nextVisit d t
    | .failed t => nextVisit d t
    | .notServing t => nextVisit d t

/-- One step of the rebase grant; nothing when no such grant is in progress (log 2). -/
def rebaseGrantStep (x : Extent) (s : State) : State :=
  match s.cmd, s.grantOf .command with
  | some (.newDay d), some g =>
    match d.rebase with
    | none => s
    | some (key, slot) => rebaseGrantWork x g d key slot s
  | _, _ => s

end Sys2Proof.Machine
end

