-- ==== Sys2Proof/Machine/PhraseCommands.lean ====
section
/-!
DEFINITION. The three phrase commands and the change of the notice phrase (03_phrase_table.md).
-/

namespace Sys2Proof.Machine

/-- The number names an entry (R47). -/
def phraseNumberOk (n : Nat) : Bool := 1 ≤ n && n ≤ Config.lastPhrase

/-- Length 1..24 and codes 0x20..0x7E (R44, R48). -/
def textOk (length : Nat) (codes : List Nat) : Bool :=
  1 ≤ length && length ≤ 24 && codes.all fun c => 0x20 ≤ c && c ≤ 0x7E

/-- The entry after DEFINE PHRASE (R48): a FREE entry becomes DEFINED with count 0; a DEFINED one keeps its count. -/
def definedPhrase (p : Phrase) (text : List Byte) : Phrase :=
  { state := .defined, text := text, count := if p.state = .free then 0 else p.count }

/-- DEFINE PHRASE after acceptance (R48). Acceptance and the command's one access to the Phrase Table stand in one step,
where R46 and R156 let the accepted command wait for it with BUSY set (DESIGN CHOICE, log 21). -/
def definePhraseCommand (s : State) : State :=
  let n := s.place 0
  if !phraseNumberOk n then refuse .fieldRange s
  else if !textOk (s.place 4) s.stagedText then refuse .fieldRange s
  else if (s.phrase n).state = .retiring then refuse .phraseRetiring s
  else done none false (s.setPhrase n (definedPhrase (s.phrase n) (s.stagedText.map byteOf)))

/-- The entry after RETIRE PHRASE (R49), when it is not FREE. -/
def retiredPhrase (p : Phrase) : Phrase :=
  match p.state with
  | .free => p
  | .retiring => p
  | .defined => if p.count = 0 then freePhrase else { p with state := .retiring }

/-- RETIRE PHRASE after acceptance (R49), its one access in the same step (DESIGN CHOICE, log 21). -/
def retirePhraseCommand (s : State) : State :=
  let n := s.place 0
  if !phraseNumberOk n then refuse .fieldRange s
  else if (s.phrase n).state = .free then refuse .unknownPhrase s
  else
    done (some (phraseStateBytes n (retiredPhrase (s.phrase n)))) false (s.setPhrase n (retiredPhrase (s.phrase n)))

/-- READ PHRASE after acceptance (R50), its one access in the same step (DESIGN CHOICE, log 21). -/
def readPhraseCommand (s : State) : State :=
  let n := s.place 0
  if !phraseNumberOk n then refuse .fieldRange s
  else done (some (phraseBytes n (s.phrase n))) false s

/-- The result of the phrase tests of a SET PARAMETER naming P5 (R53): none when they are passed. -/
def noticeTest (new : Nat) (s : State) : Option ResultCode :=
  if new = 0 then none
  else
    match (s.phrase new).state with
    | .defined => none
    | .free => some .unknownPhrase
    | .retiring => some .phraseRetiring

/-- The reference change of P5 (R53): the new phrase's take before the old phrase's release; nothing when P5 keeps
its value. -/
def changeNotice (old new : Nat) (s : State) : State :=
  if new = old then s
  else
    let t := if new = 0 then s else takePhrase new s
    if old = 0 then t else releasePhrase old t

end Sys2Proof.Machine
end

