-- ==== Sys2Proof/Machine/Parameters.lean ====
section
/-!
DEFINITION. The parameters and the silence count (09_control_port.md R158 to R160).
-/

namespace Sys2Proof.Machine

/-! ## Silence -/

/-- The silence count restarts and a stale condition ends (R158). -/
def restartSilence (s : State) : State := s.setPort { s.port with silence := 0, stale := false }

/-- The silence count after one more second: it stays at 1023 (R158). -/
def nextSilence (s : State) : Nat := min Config.silenceLimit (s.port.silence + 1)

/-- The tick brings the count to a nonzero P3 (R158). -/
def silenceReached (s : State) : Bool :=
  s.params.silenceLimit != 0 && s.port.silence < Config.silenceLimit && nextSilence s == s.params.silenceLimit

/-- The Control Port's share of a second tick (R158). -/
def silenceTick (s : State) : State :=
  s.setPort { s.port with silence := nextSilence s, stale := s.port.stale || silenceReached s }

/-- The row STALE (R158, log 7): the Control Port's share of a tick that begins the stale condition; nothing where it
would not begin (log 2). -/
def staleStep (s : State) : State := if silenceReached s ∧ s.port.stale = false then silenceTick s else s

/-! ## SET PARAMETER and READ PARAMETER -/

/-- The sweep follows a new P6 (R143, R146): setting the value held changes nothing. -/
def followSweepEnable (old : Nat) (s : State) : State :=
  if s.params.sweepEnable = old then s else if s.params.sweepEnable = 1 then startSweep s else stopSweep s

/-- The sweep holds the port. -/
def State.sweepHolds (s : State) : Bool := (s.grantOf .sweep).isSome

/-- The sweep cursor is set to P8, and marked as set anew while a sweep grant is in progress (R146), but not while a
request only waits (DEDUCED, log 24). -/
def followSweepRange (s : State) : State :=
  s.setSweep { s.sweep with cursor := s.params.sweepFirst, setAnew := s.sweepHolds }

/-- What a parameter's owner does once the parameter has its value (R53, R143, R146, R158, R159); `old` is the value
before. -/
def followParameter (n old new : Nat) (s : State) : State :=
  match n with
  | 3 => restartSilence s
  | 5 => changeNotice old new s
  | 6 => followSweepEnable old s
  | 8 => followSweepRange s
  | 9 => followSweepRange s
  | _ => s

/-- The result of the tests of SET PARAMETER (R159): none when they are passed. -/
def parameterTest (n v : Nat) (s : State) : Option ResultCode :=
  if !paramInRange n v then some .fieldRange else if n = 5 then noticeTest v s else none

/-- SET PARAMETER after acceptance (R159), its access to the Phrase Table in the same step (DESIGN CHOICE, log 21). -/
def setParameterCommand (s : State) : State :=
  let n := s.place 0
  let v := s.word 1
  match parameterTest n v s with
  | some rc => refuse rc s
  | none => done none false (followParameter n (s.params.value n) v (s.setParams (s.params.put n v)))

/-- READ PARAMETER after acceptance (R160). -/
def readParameterCommand (s : State) : State :=
  let n := s.place 0
  if n ≤ 10 then done (some (parameterBytes n (s.params.value n))) false s else refuse .fieldRange s

end Sys2Proof.Machine
end

