-- ==== Sys2Proof/Machine/Frames.lean ====
section
/-!
DEFINITION. Row frames (R174, R175): the bytes that a link sends for a row, the levels of its FRAME line (R113), and the
start of sending (R102).
-/

namespace Sys2Proof.Machine

/-- The number of a row kind (R174). -/
def rowKind : RowContent → Nat
  | .blank => 0
  | .record _ => 1
  | .notice _ => 2

/-- A text with its length before it. -/
def countedText (t : List Byte) : List Byte := byteOf t.length :: t

/-- The bytes of a departure, from its key to its attributes (R174). -/
def recordFrameBytes (r : RecordRow) : List Byte :=
  twoBytes r.body.key ++ twoBytes r.body.scheduled ++ optMinuteBytes r.body.expected ++
    [byteOf (numOf r.body.platform), byteOf (statusFlags r.body), byteOf r.body.amendments] ++
    countedText r.destinationText ++ countedText (r.viaText.getD []) ++
    countedText (r.body.attributes.map byteOf)

/-- The bytes of a row's kind, between the common part and the check byte (R174). -/
def contentBytes : RowContent → List Byte
  | .blank => []
  | .notice text => countedText text
  | .record r => recordFrameBytes r

/-- Bytes 1 to 3 of the common part: view and row index, stale flag and kind, pass number (R174). -/
def rowHeader (r : Row) : List Byte :=
  [byteOf (r.view.val * 64 + r.index), byteOf (bitVal r.stale 128 + rowKind r.content), byteOf r.passNumber]

/-- Everything of a frame but its check byte; byte 0 is the length of the whole frame (R174). -/
def frameBody (r : Row) : List Byte :=
  byteOf (5 + (contentBytes r.content).length) :: (rowHeader r ++ contentBytes r.content)

/-- The sum of bytes modulo 256. -/
def byteSum (l : List Byte) : Byte := l.foldr (fun b acc => b + acc) 0

/-- The frame of a row: its check byte makes the bytes sum to 0 modulo 256 (R175). -/
def rowFrame (r : Row) : List Byte := frameBody r ++ [-byteSum (frameBody r)]

/-! ## The FRAME line (R113) -/

/-- The level of the FRAME line at rest and between frames. -/
def frameRest : Bool := true

/-- A byte on the FRAME line, one level a bit time: a low start bit, the eight data bits least significant first, a high
stop bit. -/
def byteLevels (b : Byte) : List Bool := false :: ((List.range 8).map fun n => b.getLsbD n) ++ [true]

/-- The levels of the FRAME line while a frame is sent: its bytes back to back. -/
def frameLevels (frame : List Byte) : List Bool := frame.flatMap byteLevels

/-- The level of a link's FRAME line `n` bit times after its frame began; at rest where no frame is sent and after the
frame's end. -/
def Link.frameLevel (l : Link) (n : Nat) : Bool := (frameLevels l.frame).getD n frameRest

/-- A link begins to send a row, which stands in its slot from then on (R101, R102, R104). -/
def Link.sends (l : Link) (r : Row) : Link :=
  { l with state := .sending, slot := some r, frame := rowFrame r, takeTimer := none }

end Sys2Proof.Machine
end

