-- ==== Sys2Proof/Machine/Views.lean ====
section
/-!
DEFINITION. The View Engine (05_views.md): filters, passes, the composer, placement and the view commands.
-/

namespace Sys2Proof.Machine

/-! ## Filter -/

/-- The platform lies in the view's range, which wraps when first is above last (R73). -/
def inPlatformRange (c : ViewConfig) (p : Nat) : Bool :=
  if c.platformFirst ≤ c.platformLast then c.platformFirst ≤ p && p ≤ c.platformLast
  else (c.platformFirst ≤ p && p ≤ Config.lastPhrase) || (1 ≤ p && p ≤ c.platformLast)

/-- The platform part of the filter (R73). -/
def platformPasses (c : ViewConfig) : Option Nat → Bool
  | none => c.includeUnassigned
  | some p => inPlatformRange c p

/-- The entry passes the view's filter (R73). -/
def passesFilter (c : ViewConfig) (e : Entry) : Bool :=
  platformPasses c e.platform && c.statuses.getLsbD (statusCode e.status)

/-! ## Pass start and rests -/

/-- The stale action makes itself felt in rows: P4 is 1 and the stale condition stands (R86). -/
def State.rowsStale (s : State) : Bool := s.params.staleAction == 1 && s.port.stale

/-- The skip of a new pass: the offset modulo the number of passing records (R78 steps 3 and 4). -/
def startSkip (offset passing : Nat) : Nat := if passing = 0 then 0 else offset % passing

/-- A view at the start of a pass (R78), its refresh timer stopped and its resume action absent (R76). -/
def View.passStarted (w : View) (passing : Nat) (noticeDue : Bool) : View :=
  { w with
    passNumber := (w.passNumber + 1) % 256, rowIndex := 0, cursor := frontPos, anchor := none, wrapped := .no,
    searchEnded := false, skip := startSkip w.config.offset passing, noticeDue := noticeDue, state := .running,
    resume := none, refreshTimer := none }

/-- A pass of view `v` starts (R78). -/
def startPass (v : Fin 4) (s : State) : State :=
  s.setView v ((s.view v).passStarted (countPassing (passesFilter (s.view v).config) s)
    (s.rowsStale && s.params.noticePhrase != 0))

/-- A view takes the state that a resume action names (R87, R88); the refresh timer starts on entry to RESTING
(R89). -/
def View.resumed (w : View) : Resume → View
  | .goOn => { w with state := .running, resume := none }
  | .rest => { w with state := .resting, resume := none, refreshTimer := some w.config.refresh }
  | .step => { w with state := .stepWait, resume := none }
  | .finish => { w with state := .idle, resume := none }

/-- What a view does after a row, by its mode (R87). -/
def View.afterRow (w : View) : Resume :=
  match w.config.mode with
  | .onePass => if w.rowIndex = w.config.rowCount then .finish else .goOn
  | .cyclic => if w.rowIndex = w.config.rowCount then .rest else .goOn
  | .stepped => .step

/-- The View Engine's share of a second tick for one view (R89): a running refresh timer falls by one, and a new
pass starts when it reaches 0. -/
def refreshTick (v : Fin 4) (s : State) : State :=
  if (s.view v).state = .resting then
    match (s.view v).refreshTimer with
    | none => s
    | some n => if n ≤ 1 then startPass v s else s.setView v { s.view v with refreshTimer := some (n - 1) }
  else s

/-- The View Engine's share of a second tick for one view, but for the pass (R89): a running refresh timer falls by one
and stands at 0 when it expires. -/
def refreshTimerTick (v : Fin 4) (s : State) : State :=
  if (s.view v).state = .resting then
    match (s.view v).refreshTimer with
    | none => s
    | some n => s.setView v { s.view v with refreshTimer := some (n - 1) }
  else s

/-- The four views' timers at a second tick. -/
def viewTimersTick (s : State) : State :=
  refreshTimerTick 3 (refreshTimerTick 2 (refreshTimerTick 1 (refreshTimerTick 0 s)))

/-- The refresh timer stands at its last second or has been brought to 0. -/
def View.refreshDue (w : View) : Bool :=
  match w.refreshTimer with
  | none => false
  | some n => n ≤ 1

/-- The four views' shares of a second tick. -/
def viewsTick (s : State) : State := refreshTick 3 (refreshTick 2 (refreshTick 1 (refreshTick 0 s)))

/-- The row REFRESH_EXPIRY (R89, log 7): the pass of a timer that a tick has brought to 0, or the view's share of a tick
that brings it there; nothing where no timer stands so (log 2). -/
def refreshExpiryStep (v : Fin 4) (s : State) : State :=
  if (s.view v).state = .resting ∧ (s.view v).refreshDue = true then startPass v s else s

/-- An ADVANCE request (R90). A pass that it starts makes its count claim in the same step (DESIGN CHOICE, log 21). -/
def advanceRequest (v : Fin 4) (s : State) : State :=
  if (s.view v).state = .stepWait then
    if (s.view v).rowIndex < (s.view v).config.rowCount then s.setView v { s.view v with state := .running }
    else startPass v s
  else s

/-! ## The composer -/

/-- The composer's work is replaced. -/
def State.setComposing (c : Composing) (s : State) : State := s.setComposer { s.composer with work := c }

/-- A candidate's composition is abandoned (R92): a grant that is held runs to its end, a waiting request is
dropped. -/
def abandonCandidate (s : State) : State :=
  match s.grantOf .composer with
  | some _ => s.setComposing .draining
  | none => (dropRequest .composer s).setComposing .free

/-- A composition in flight for view `v` is abandoned (R92). -/
def abandonComposition (v : Fin 4) (s : State) : State :=
  match s.composer.work with
  | .free => s
  | .draining => s
  | .taken w => if w = v then s.setComposing .free else s
  | .searching w => if w = v then s.setComposing .free else s
  | .candidate w _ => if w = v then abandonCandidate s else s

/-- The row of view `v` with a content, completed now (R83, R86). -/
def rowOf (v : Fin 4) (content : RowContent) (s : State) : Row :=
  { view := v, index := (s.view v).rowIndex, passNumber := (s.view v).passNumber, stale := s.rowsStale,
    content := content }

/-- A composition ends by placing its row (R87): the composer is free, the row index rises by one, and the row goes
to the slot, where the link begins to send it, or to the parked row. -/
def placeRow (v : Fin 4) (content : RowContent) (s : State) : State :=
  let row := rowOf v content s
  let w : View := { s.view v with rowIndex := (s.view v).rowIndex + 1 }
  let t := s.setComposing .free
  match (s.link v).slot with
  | none => (t.setLink v ((s.link v).sends row)).setView v (w.resumed w.afterRow)
  | some _ =>
    (t.setLink v { s.link v with parked := some row }).setView v { w with state := .parked, resume := some w.afterRow }

/-- What one next after claim of a search leads to (R80); `w` is the view as the claim leaves it. -/
inductive SearchAnswer
  | again (w : View)
  | nothing (w : View)
  | candidate (w : View) (e : Entry)

/-- The position lies at or after the wrap limit of a pass that has wrapped (R80). -/
def atWrapLimit (p : Position) : Wrapped → Bool
  | .no => false
  | .yes none => false
  | .yes (some limit) => !posBefore p limit

/-- The pass has not gone on from the front yet. -/
def notWrapped : Wrapped → Bool
  | .no => true
  | .yes _ => false

/-- One next after claim of a search (R80). -/
def searchClaim (w : View) (s : State) : SearchAnswer :=
  match nextAfter w.cursor (passesFilter w.config) s with
  | some e =>
    if atWrapLimit (entryPos e) w.wrapped then .nothing { w with searchEnded := true }
    else if 1 ≤ w.skip then .again { w with skip := w.skip - 1, cursor := entryPos e }
    else .candidate w e
  | none =>
    if w.config.wrap && notWrapped w.wrapped then
      .again { w with skip := 0, wrapped := .yes w.anchor, cursor := frontPos }
    else .nothing { w with skip := 0, searchEnded := true }

/-- A search of at most `fuel` claims (R80). -/
def searchWithin : Nat → View → State → SearchAnswer
  | 0, w, _ => .again w
  | n + 1, w, s =>
    match searchClaim w s with
    | .again w' => searchWithin n w' s
    | .nothing w' => .nothing w'
    | .candidate w' e => .candidate w' e

/-- The claims a search makes: all of them, at most one for each record skipped, one that wraps and one more; or
one (log 4). -/
def searchLength (x : Extent) (w : View) : Nat :=
  match x with
  | .whole => w.skip + 2
  | .firstPart => 1

/-- A search for view `v` goes on (R80): a candidate is requested for reading, and nothing found gives a BLANK row
(R85). -/
def continueSearch (x : Extent) (v : Fin 4) (s : State) : State :=
  match searchWithin (searchLength x (s.view v)) (s.view v) s with
  | .again w => (s.setView v w).setComposing (.searching v)
  | .nothing w => placeRow v .blank (s.setView v w)
  | .candidate w e => requestPort .composer ((s.setView v w).setComposing (.candidate v e))

/-- Whether a view whose notice is due gets its NOTICE row: P4 is 1 and P5 names a phrase at the read (R84). -/
def State.noticeReadable (s : State) : Bool := s.params.staleAction == 1 && s.params.noticePhrase != 0

/-- A row other than a NOTICE row (R80, R85). -/
def composeOther (x : Extent) (v : Fin 4) (s : State) : State :=
  if (s.view v).searchEnded then placeRow v .blank s else continueSearch x v s

/-- The composition of a view's next row is taken up (R79, R84): a row 0 whose notice is due reads it, and any other row
is searched for. Notice due becomes no at that read, whether the row turns out a NOTICE row or row 0 falls back to a
search: R84 says `when row 0 is composed`, which leaves the moment open where a search follows (DESIGN CHOICE, log 20).
The read and the first claim after it are two accesses, and `firstPart` ends with the read (log 4). -/
def composeRow (x : Extent) (v : Fin 4) (s : State) : State :=
  if (s.view v).noticeDue then
    let t := s.setView v { s.view v with noticeDue := false }
    if s.noticeReadable then placeRow v (.notice (s.phrase s.params.noticePhrase).text) t
    else
      match x with
      | .whole => composeOther .whole v t
      | .firstPart => t
  else composeOther x v s

/-- A view is ready to compose: RUNNING, its link's parked row empty, the day-change hold clear (R79). The composer
is free where this is asked, so no composition is in flight. -/
def State.viewReady (s : State) (v : Fin 4) : Bool :=
  decide ((s.view v).state = .running) && (s.link v).parked.isNone && !s.clock.hold

/-- The ready view that comes first after the view last served (R79). -/
def nextReady (s : State) : Option (Fin 4) :=
  [s.composer.lastServed + 1, s.composer.lastServed + 2, s.composer.lastServed + 3, s.composer.lastServed].find?
    fun v => s.viewReady v

/-- The composer takes a view: its composition is in flight from here on (R79). -/
def takeView (v : Fin 4) (s : State) : State := s.setComposer { work := .taken v, lastServed := v }

/-- The free composer takes the next ready view (R79); nothing when no view is ready (log 2). `firstPart` ends there, so
that other claims may be served before the first of the composition, a NEW DAY's among them (R13, R91, log 4). -/
def startComposition (x : Extent) (s : State) : State :=
  match nextReady s with
  | none => s
  | some v =>
    match x with
    | .whole => composeRow .whole v (takeView v s)
    | .firstPart => takeView v s

/-- The composer begins a composition, takes up the row of a view it has taken, or goes on with a search that has more
claims to make (R79, R80); nothing when there is none of these (log 2). -/
def compositionStep (x : Extent) (s : State) : State :=
  match s.composer.work with
  | .free => startComposition x s
  | .taken v => composeRow x v s
  | .searching v => continueSearch x v s
  | .candidate _ _ => s
  | .draining => s

/-- A new search after a failed re-check or a read without a body (R81, R82), once the grant has ended. -/
def searchAgain (x : Extent) (v : Fin 4) (s : State) : State :=
  match x with
  | .whole => continueSearch .whole v (s.setComposing (.searching v))
  | .firstPart => s.setComposing (.searching v)

/-- The re-check finds the entry as the search found it (R81). -/
def sameEntry (found now : Entry) : Bool :=
  now.slot == found.slot && now.effective == found.effective && now.platform == found.platform &&
    now.status == found.status

/-- The departure of a RECORD row, with the texts read at the re-check (R54, R83). -/
def recordRowOf (r : RecordBody) (e : Entry) (s : State) : RecordRow :=
  { body := r, destinationText := (s.phrase e.destination).text, viaText := e.via.map fun n => (s.phrase n).text }

/-- A view's cursor and anchor after a RECORD row (R81). -/
def View.passed (w : View) (p : Position) : View := { w with cursor := p, anchor := some (w.anchor.getD p) }

/-- A re-check that passes (R81): the row is built, the grant ends, the row is placed. -/
def placeRecord (v : Fin 4) (r : RecordBody) (e : Entry) (s : State) : State :=
  let row := recordRowOf r e s
  let t := endGrant s
  placeRow v (.record row) (t.setView v ((t.view v).passed (entryPos e)))

/-- The re-check claim (R81 steps 2 and 3). -/
def composerRecheck (x : Extent) (v : Fin 4) (found : Entry) (r : RecordBody) (s : State) : State :=
  match lookupKey found.key s with
  | none => searchAgain x v (endGrant s)
  | some e => if sameEntry found e then placeRecord v r e s else searchAgain x v (endGrant s)

/-- The composer's grant on its candidate (R81, R82). -/
def candidateGrant (x : Extent) (g : Grant) (v : Fin 4) (e : Entry) (s : State) : State :=
  match g.progress with
  | .accessed r _ => composerRecheck x v e r s
  | .queried _ => s
  | .begun =>
    match readBody .compose e.slot e.key s with
    | .body r t =>
      match x with
      | .whole => composerRecheck .whole v e r t
      | .firstPart => setProgress g (.accessed r false) t
    | .withdrawn t => searchAgain x v (endGrant t)
    | .gone t => searchAgain x v (endGrant t)
    | .failed t => searchAgain x v (endGrant t)
    | .notServing t => searchAgain x v (endGrant t)

/-- The grant of an abandoned composition (R92): the check handling is done, with no re-check and no row. -/
def drainGrant (g : Grant) (s : State) : State :=
  let t :=
    match g.progress, g.slot with
    | .begun, some slot => (readBody .compose slot g.key s).after
    | _, _ => s
  (endGrant t).setComposing .free

/-- One step of the composer's grant; nothing when it holds none (log 2). -/
def composerGrantStep (x : Extent) (s : State) : State :=
  match s.grantOf .composer with
  | none => s
  | some g =>
    match s.composer.work with
    | .candidate v e => candidateGrant x g v e s
    | .draining => drainGrant g s
    | .free => s
    | .taken _ => s
    | .searching _ => s

/-! ## View commands -/

/-- Link `v`'s parked row is discarded (R94, R95, R100). -/
def discardParked (v : Fin 4) (s : State) : State := s.setLink v { s.link v with parked := none }

/-- A view's timer stops and its resume action becomes absent, its state `st` (R93 to R95, R98). -/
def View.stopped (w : View) (st : ViewState) : View := { w with state := st, refreshTimer := none, resume := none }

/-- CONFIGURE VIEW after acceptance (R75). -/
def configureViewCommand (s : State) : State :=
  match s.stagedView with
  | none => refuse .fieldRange s
  | some v =>
    match s.stagedConfig with
    | none => refuse .fieldRange s
    | some c =>
      if (s.view v).state = .idle ∨ (s.view v).state = .halted then
        done none false (s.setView v { s.view v with config := c })
      else refuse .viewBusy s

/-- A HALTED view's link returns from LOST to IDLE with an empty slot (R94 step 4). -/
def reviveLink (v : Fin 4) (s : State) : State :=
  if (s.view v).state = .halted then s.setLink v { s.link v with state := .idle, slot := none } else s

/-- START VIEW after acceptance (R94), its pass's count claim in the same step (DESIGN CHOICE, log 21). -/
def startViewCommand (s : State) : State :=
  match s.stagedView with
  | none => refuse .fieldRange s
  | some v =>
    let t := startPass v (reviveLink v (abandonComposition v (discardParked v s)))
    done (some (passNumberBytes (t.view v).passNumber)) false t

/-- STOP VIEW after acceptance (R95). -/
def stopViewCommand (s : State) : State :=
  match s.stagedView with
  | none => refuse .fieldRange s
  | some v =>
    if (s.view v).state = .halted then done none false s
    else done none false ((abandonComposition v (discardParked v s)).setView v ((s.view v).stopped .idle))

/-- The offset moved by a step, modulo 256; direction 0 forward, 1 back (R96, R173). -/
def shiftedOffset (offset direction step : Nat) : Nat :=
  if direction = 0 then (offset + step) % 256 else (offset + 256 - step) % 256

/-- SHIFT VIEW after acceptance (R96). -/
def shiftViewCommand (s : State) : State :=
  match s.stagedView with
  | none => refuse .fieldRange s
  | some v =>
    if s.place 16 ≤ 1 ∧ 1 ≤ s.place 17 ∧ s.place 17 ≤ 16 then
      let w := s.view v
      let o := shiftedOffset w.config.offset (s.place 16) (s.place 17)
      done (some (offsetBytes o)) false (s.setView v { w with config := { w.config with offset := o } })
    else refuse .fieldRange s

/-- READ VIEW after acceptance (R97). -/
def readViewCommand (s : State) : State :=
  match s.stagedView with
  | none => refuse .fieldRange s
  | some v => done (some (viewBytes v.val (s.view v) (s.link v))) false s

/-- View `v` halts at the loss of its link (R93). -/
def haltView (v : Fin 4) (s : State) : State :=
  let t := abandonComposition v s
  t.setView v ((t.view v).stopped .halted)

end Sys2Proof.Machine
end

