-- ==== Sys2Proof/Machine/Links.lean ====
section
/-!
DEFINITION. The Board Links (06_board_links.md): frame end, TAKE, loss, ADVANCE and its hold timer.
-/

namespace Sys2Proof.Machine

/-- Frame end (R103): AWAIT_TAKE, the take timer at the view's take limit; nothing in another state (log 2). -/
def frameEndStep (n : Fin 4) (s : State) : State :=
  if (s.link n).state = .sending then
    s.setLink n { s.link n with state := .awaitTake, frame := [], takeTimer := some (s.view n).config.takeLimit }
  else s

/-- The view of a link whose parked row has moved into the slot takes its resume action's state (R88, R104). -/
def unparkView (n : Fin 4) (s : State) : State :=
  match (s.view n).resume with
  | none => s
  | some r => s.setView n ((s.view n).resumed r)

/-- TAKE (R104); ignored unless the link is AWAIT_TAKE (R105). -/
def takeStep (n : Fin 4) (s : State) : State :=
  if (s.link n).state = .awaitTake then
    match (s.link n).parked with
    | some row => unparkView n (s.setLink n ({ s.link n with parked := none }.sends row))
    | none => s.setLink n { s.link n with state := .idle, slot := none, takeTimer := none }
  else s

/-- A link that is lost (R106). -/
def Link.lostNow (l : Link) : Link := { l with state := .lost, slot := none, parked := none, takeTimer := none }

/-- The take timer expires (R93, R106); nothing while it does not run (log 2). -/
def linkLostStep (n : Fin 4) (s : State) : State :=
  if (s.link n).state = .awaitTake then
    raiseEvent .linkLost none none none (some n) .link (haltView n (s.setLink n (s.link n).lostNow))
  else s

/-- The level of the ADVANCE line at the pin. -/
def setAdvanceLine (n : Fin 4) (level : Bool) (s : State) : State := s.setLink n { s.link n with line := level }

/-- A change of ADVANCE to asserted is taken (R108, R109): a rising edge, handed to the view; the hold timer counts
from 0. -/
def advanceRiseStep (n : Fin 4) (s : State) : State :=
  if (s.link n).advance then s
  else advanceRequest n (s.setLink n { s.link n with advance := true, holdTimer := 0, heldAtTick := false })

/-- A change of ADVANCE to released is taken (R108): the hold timer becomes 0. -/
def advanceReleaseStep (n : Fin 4) (s : State) : State :=
  s.setLink n { s.link n with advance := false, holdTimer := 0, heldAtTick := false }

/-- A link's hold timer at a second tick (R109). -/
def Link.ticked (l : Link) : Link :=
  if l.advance then
    if l.heldAtTick then { l with holdTimer := min 3 (l.holdTimer + 1) } else { l with holdTimer := 0, heldAtTick := true }
  else { l with holdTimer := 0, heldAtTick := false }

/-- Every link's hold timer at a second tick (R109). -/
def holdTimersTick (s : State) : State := s.setLinks (mapFour Link.ticked s.links)

/-- P10 is not empty and every link in it has a hold timer of 3 (R110). -/
def combinationHeld (s : State) : Bool :=
  s.params.resetLinks != 0 &&
    [0, 1, 2, 3].all fun n : Fin 4 => !s.params.resetLinks.getLsbD n.val || (s.link n).holdTimer == 3

end Sys2Proof.Machine
end

