-- ==== Sys2Proof/Machine/Store.lean ====
section
/-!
DEFINITION. The store states and their transitions, clearing, CHECK TEST and disturbances
(07_record_memory_and_store_states.md).
-/

namespace Sys2Proof.Machine

/-! ## SET STORE STATE -/

/-- The rows of R129's table of transitions. -/
inductive Transition
  | clear
  | openSingle (primary : Bank)
  | openMirrored
  | rebuild (origin : StoreState)
  | keepOne (primary : Bank)
  | abandonRebuild
  deriving DecidableEq, Repr

/-- CLEARING, from any state but CLEARING (R129). -/
def toClearing : StoreState → Option Transition
  | .clearing => none
  | .uninit => some .clear
  | .ready => some .clear
  | .single => some .clear
  | .mirrored => some .clear
  | .rebuilding => some .clear
  | .degraded => some .clear
  | .failed => some .clear

/-- SINGLE, from READY, MIRRORED and REBUILDING (R129). -/
def toSingle (bank : Bank) : StoreState → Option Transition
  | .ready => some (.openSingle bank)
  | .mirrored => some (.keepOne bank)
  | .rebuilding => some .abandonRebuild
  | .uninit => none
  | .clearing => none
  | .single => none
  | .degraded => none
  | .failed => none

/-- MIRRORED, from READY, SINGLE and DEGRADED (R129). -/
def toMirrored : StoreState → Option Transition
  | .ready => some .openMirrored
  | .single => some (.rebuild .single)
  | .degraded => some (.rebuild .degraded)
  | .uninit => none
  | .clearing => none
  | .mirrored => none
  | .rebuilding => none
  | .failed => none

/-- The row of R129's table for the current state and a target, if there is one. -/
def transitionOf (current target : StoreState) (bank : Bank) : Option Transition :=
  match target with
  | .clearing => toClearing current
  | .single => toSingle bank current
  | .mirrored => toMirrored current
  | .uninit => none
  | .ready => none
  | .rebuilding => none
  | .degraded => none
  | .failed => none

/-- SET STORE STATE after acceptance (R129): its tests, then the Command Unit's grant. CLEAR is the same command with
the target CLEARING (R131). -/
def setStoreStateCommand (s : State) : State :=
  match storeStateOf (s.place 0), bankOf (s.place 1) with
  | some target, some bank =>
    match transitionOf s.store.state target bank with
    | none => refuse .badTransition s
    | some _ => holdForGrant (.storeState target bank) s
  | _, _ => refuse .fieldRange s

/-- Entry to CLEARING (R131). With a closed Directory the empty claim finds nothing to remove. -/
def enterClearing (s : State) : State :=
  let t := (emptyClaim
    (s.setStore { s.store with state := .clearing, failedBank := none, origin := none, clearingCursor := 0 })).2
  stopSweep (dropRequest .copier t)

/-- Entry to SINGLE or MIRRORED from READY (R130): the Directory opens and the sweep may begin. The failed bank is
absent once the store enters MIRRORED (R129). -/
def enterServing (v : StoreState) (primary : Bank) (s : State) : State :=
  startSweep (openClaim (s.setStore { s.store with
    state := v, primary := primary, failedBank := if v = .mirrored then none else s.store.failedBank }))

/-- Entry to REBUILDING (R130, R135): the cursor at 0, the sweep paused, the copier's first request. -/
def enterRebuilding (origin : StoreState) (s : State) : State :=
  requestPort .copier
    (stopSweep (s.setStore { s.store with state := .rebuilding, origin := some origin, rebuildCursor := 0 }))

/-- The changes at entry to a store state (R130). -/
def enterState (tr : Transition) (s : State) : State :=
  match tr with
  | .clear => enterClearing s
  | .openSingle b => enterServing .single b s
  | .openMirrored => enterServing .mirrored .A s
  | .rebuild origin => enterRebuilding origin s
  | .keepOne b => s.setStore { s.store with state := .single, primary := b }
  | .abandonRebuild => returnToOrigin s

/-- The grant of SET STORE STATE (R130). The store state is tested again as it stands at the grant
(DESIGN CHOICE, log 8); nothing when no such grant is in progress (log 2). -/
def storeStateGrantStep (s : State) : State :=
  match s.cmd, s.grantOf .command with
  | some (.storeState target bank), some _ =>
    match transitionOf s.store.state target bank with
    | none => refuseGrant .badTransition s
    | some tr => completeGrant .ok none false (enterState tr s)
  | _, _ => s

/-- READ STATE after acceptance (R132). -/
def readStateCommand (s : State) : State := done (some (stateBytes s s.liveCount)) false s

/-! ## Clearing -/

/-- A clearing step may take the port: it is free and no request waits (R118, R131). -/
def portIdle (s : State) : Bool := s.arb.held.isNone && s.arb.waiting.first.isNone

/-- The store after a clearing step: the cursor one higher, READY at 256 (R130, R131). -/
def clearedOne (c : StoreController) : StoreController :=
  { c with clearingCursor := c.clearingCursor + 1,
           state := if c.clearingCursor + 1 = Config.slots then .ready else .clearing }

/-- One clearing step (R131); nothing outside CLEARING or while the port is not idle (log 2). -/
def clearingStepWork (s : State) : State :=
  if s.store.state = .clearing ∧ portIdle s then
    let n := s.store.clearingCursor
    (writeCopy .B n .free (writeCopy .A n .free s)).setStore (clearedOne s.store)
  else s

/-! ## CHECK TEST -/

/-- CHECK TEST after acceptance (R117); every slot number of one byte is in range. -/
def checkTestCommand (s : State) : State :=
  match bankOf (s.place 0), disturbanceOf (s.place 2) with
  | some bank, some kind => holdForGrant (.checkTest bank (s.place 1) kind) s
  | _, _ => refuse .fieldRange s

/-- The grant of CHECK TEST (R117); nothing when no such grant is in progress (log 2). -/
def checkTestGrantStep (s : State) : State :=
  match s.cmd, s.grantOf .command with
  | some (.checkTest bank slot kind), some _ => completeGrant .ok none false (disturbCopy bank slot kind s)
  | _, _ => s

end Sys2Proof.Machine
end

