-- ==== Sys2Proof/Machine/Resets.lean ====
section
/-!
DEFINITION. The full reset (R19, R42, R55, R70, R98, R112, R133, R147, R148, R170), RESET_N and its release (R161),
and RESTART (R157).
-/

namespace Sys2Proof.Machine

/-- A full reset: every block at its full-reset values, each link taking its ADVANCE level from the line (R112). The
lines from outside stay as they are, and so does the queue (log 10). -/
def fullReset (s : State) : State :=
  { State.reset with
    pending := s.pending, inReset := s.inReset, links := mapFour (fun l => Link.reset l.line) s.links }

/-- RESET_N goes low (R161): a full reset, and the part stays in reset. -/
def resetNStep (s : State) : State := (fullReset s).setInReset true

/-- RESET_N rises (R161): the part leaves reset with every block at its full-reset values; nothing when it is not in
reset (log 2). -/
def resetNReleaseStep (s : State) : State := if s.inReset then (fullReset s).setInReset false else s

/-- RESTART's change to the Control Port (R157); the silence count and the stale condition follow from its
completion. -/
def ControlPort.restarted (p : ControlPort) : ControlPort :=
  { p with staging := Vector.replicate 32 0, pointer := 0, direction := .increment, width := .eight,
           pendingNibble := none }

/-- RESTART's change to a link (R111). -/
def Link.restarted (l : Link) : Link :=
  { l with state := .idle, slot := none, parked := none, frame := [], takeTimer := none }

/-- RESTART's change to the Event Unit (R157, R170). -/
def EventUnit.restarted (u : EventUnit) : EventUnit := { u with sticky := 0, firstFatal := none, firstError := none }

/-- Every composition in flight is abandoned (R92, R98). -/
def abandonAll (s : State) : State :=
  abandonComposition 3 (abandonComposition 2 (abandonComposition 1 (abandonComposition 0 s)))

/-- RESTART after acceptance (R157). -/
def restartCommand (s : State) : State :=
  let t := abandonAll s
  let u := t.setViews (mapFour (fun w => w.stopped .idle) t.views)
  let w := (u.setLinks (mapFour Link.restarted u.links)).setEvents u.events.restarted
  done none true (w.setPort w.port.restarted)

end Sys2Proof.Machine
end

