-- ==== Sys2Proof/Machine/Tick.lean ====
section
/-!
DEFINITION. The second tick (R56) and its delivery to its four holders.
-/

namespace Sys2Proof.Machine

/-- What a second tick does at one holder (R56). The Board Links' share is the hold timers' (R109); their
link-combination reset follows in `deliverTick`. -/
def tickShare (h : TickHolder) (s : State) : State :=
  match h with
  | .serviceClock => clockTick s
  | .controlPort => silenceTick s
  | .viewEngine => viewsTick s
  | .viewTimers => viewTimersTick s
  | .boardLinks => holdTimersTick s

/-- The link-combination reset (R110): a full reset when it is held, else nothing. -/
def combinationReset (s : State) : State := if combinationHeld s then fullReset s else s

/-- A second tick reaches its holders in an order that the manual leaves open (R56, log 7). A link-combination reset
ends the tick: every block stands at its full-reset values after it. -/
def deliverTick : List TickHolder → State → State
  | [], s => s
  | h :: rest, s =>
    if h = .boardLinks ∧ combinationHeld (tickShare h s) then combinationReset (tickShare h s)
    else deliverTick rest (tickShare h s)

end Sys2Proof.Machine
end

