-- ==== Sys2Proof/Machine/Port.lean ====
section
/-!
DEFINITION. The Control Port (09_control_port.md R148 to R156): strobes in both widths, staging transfers, status
reads, and the command bytes of R171.
-/

namespace Sys2Proof.Machine

/-! ## Command bytes -/

/-- A command accepted by its byte (R155, R171): every byte that names no command completes at once with
BAD_COMMAND. A command's first access, or the claims that its entry makes before a grant, are served in the step that
accepts it (DESIGN CHOICE, log 21). -/
def acceptCommand (n : Nat) (s : State) : State :=
  match n with
  | 0x01 => addCommand s
  | 0x02 => amendCommand s
  | 0x03 => retireCommand s
  | 0x04 => fetchCommand s
  | 0x05 => fetchRankCommand s
  | 0x06 => findNextCommand s
  | 0x08 => definePhraseCommand s
  | 0x09 => retirePhraseCommand s
  | 0x0A => readPhraseCommand s
  | 0x10 => configureViewCommand s
  | 0x11 => startViewCommand s
  | 0x12 => stopViewCommand s
  | 0x13 => shiftViewCommand s
  | 0x14 => readViewCommand s
  | 0x18 => setClockCommand s
  | 0x19 => newDayCommand s
  | 0x1A => keepaliveCommand s
  | 0x20 => setStoreStateCommand s
  | 0x21 => readStateCommand s
  | 0x22 => checkTestCommand s
  | 0x28 => setParameterCommand s
  | 0x29 => readParameterCommand s
  | 0x30 => readEventsCommand s
  | 0x31 => clearEventsCommand s
  | 0x32 => readCaptureCommand s
  | 0x33 => clearCaptureCommand s
  | 0x34 => setMasksCommand s
  | 0x3F => restartCommand s
  | _ => refuse .badCommand s

/-- OVERRUN is raised by the port (R153, R155). -/
def raiseOverrun (s : State) : State := raiseEvent .overrun none none none none .port s

/-- POINTER (R154, R171): the pointer from bits 4..0, the direction from bit 6. -/
def setPointer (b : Byte) (s : State) : State :=
  s.setPort { s.port with pointer := b.setWidth 5, direction := if b.getLsbD 6 then .decrement else .increment }

/-- WIDTH 8 and WIDTH 4 (R154). -/
def setWidth (w : Width) (s : State) : State := s.setPort { s.port with width := w, pendingNibble := none }

/-- A command write is taken (R154, R155). -/
def takeCommandByte (b : Byte) (s : State) : State :=
  if s.busy then raiseOverrun s
  else if 0x80 ≤ b.toNat then setPointer b s
  else if b.toNat = 0x40 then setWidth .eight s
  else if b.toNat = 0x41 then setWidth .four s
  else acceptCommand b.toNat s

/-! ## Staging and status -/

/-- The pointer after a staging transfer (R153): one place in its direction, 31 and 0 being neighbours. -/
def ControlPort.nextPointer (p : ControlPort) : BitVec 5 :=
  match p.direction with
  | .increment => p.pointer + 1
  | .decrement => p.pointer - 1

/-- The pointer moves (R153). -/
def movePointer (s : State) : State := s.setPort { s.port with pointer := s.port.nextPointer }

/-- The staging byte that the pointer names. -/
def State.stagedByte (s : State) : Byte := s.port.staging[s.port.pointer.toFin]

/-- A staging write is taken (R153): refused with OVERRUN while BUSY. -/
def takeStagingWrite (b : Byte) (s : State) : State :=
  if s.busy then raiseOverrun s
  else movePointer (s.setStaging (s.port.staging.set s.port.pointer.toFin b))

/-- The byte that a read samples (R149, R152, R153): the status byte, or the staging byte, which reads 0x00 while
BUSY. -/
def sampledByte (sel : Bool) (s : State) : Byte :=
  if sel then (if s.busy then 0 else s.stagedByte) else statusByte s

/-- A read is settled by its sample (R149, R152, R153): a status read changes nothing; a staging read moves the
pointer, or raises OVERRUN when BUSY was set at the sample. -/
def settleRead (sel wasBusy : Bool) (s : State) : State :=
  if sel then (if wasBusy then raiseOverrun s else movePointer s) else s

/-- A write transfer is taken whole: a staging write or a command write (R148). -/
def takeWrite (sel : Bool) (b : Byte) (s : State) : State :=
  if sel then takeStagingWrite b s else takeCommandByte b s

/-! ## Strobes -/

/-- The strobe leaves a pending nibble, or none, and what the part drove at it (R149, R161). -/
def State.strobed (s : State) (pending : Option PendingNibble) (driven : Driven) : State :=
  s.setPort { s.port with pendingNibble := pending, driven := driven }

/-- A strobe in width 8 is one transfer (R148). -/
def strobeEight (sel rw : Bool) (lines : Byte) (s : State) : State :=
  if rw then settleRead sel s.busy (s.strobed none (.byte (sampledByte sel s)))
  else takeWrite sel lines (s.strobed none .released)

/-- The nibble on D7..D4. -/
def upperNibble (b : Byte) : Nibble := b.extractLsb' 4 4

/-- The nibble that D3..D0 would carry. -/
def lowerNibble (b : Byte) : Nibble := b.extractLsb' 0 4

/-- A strobe becomes the pending nibble (R149, R150). -/
def firstHalf (sel rw : Bool) (lines : Byte) (s : State) : State :=
  if rw then
    s.strobed (some { sel := sel, half := .read (sampledByte sel s) s.busy }) (.nibble (upperNibble (sampledByte sel s)))
  else s.strobed (some { sel := sel, half := .write (upperNibble lines) }) .released

/-- The RW level of the strobe that left a half. -/
def PendingHalf.rw : PendingHalf → Bool
  | .write _ => false
  | .read _ _ => true

/-- A strobe completes the byte of a pending nibble (R149). -/
def secondHalf (p : PendingNibble) (lines : Byte) (s : State) : State :=
  match p.half with
  | .write high => takeWrite p.sel (high ++ upperNibble lines) (s.strobed none .released)
  | .read sample wasBusy => settleRead p.sel wasBusy (s.strobed none (.nibble (lowerNibble sample)))

/-- A strobe in width 4 (R149): a second half when the levels agree with the pending nibble's; otherwise a first
nibble, a pending one being discarded (R150). -/
def strobeFour (sel rw : Bool) (lines : Byte) (s : State) : State :=
  match s.port.pendingNibble with
  | none => firstHalf sel rw lines s
  | some p => if p.sel = sel ∧ p.half.rw = rw then secondHalf p lines s else firstHalf sel rw lines s

/-- A strobe with its SEL and RW levels and the levels of D7..D0 (R148, R149). None comes while the strobe of a read is
still low (R161, log 2). -/
def strobe (sel rw : Bool) (lines : Byte) (s : State) : State :=
  match s.port.lowRead with
  | some _ => s
  | none =>
    match s.port.width with
    | .eight => strobeEight sel rw lines s
    | .four => strobeFour sel rw lines s

/-- The falling edge of a width-8 read's strobe (R152, R153, R161): the byte and BUSY are sampled, and the byte is
driven. Nothing in width 4, where the pair's first strobe samples (R149), nor while the strobe is low (log 2). -/
def readFall (sel : Bool) (s : State) : State :=
  match s.port.width, s.port.lowRead with
  | .eight, none =>
    s.setPort { s.port with
      lowRead := some { sel := sel, byte := sampledByte sel s, busy := s.busy }, driven := .byte (sampledByte sel s) }
  | _, _ => s

/-- The rising edge of a width-8 read's strobe (R152, R153): the read is settled by its sample; nothing when no such
read is under way (log 2). -/
def readRise (sel : Bool) (s : State) : State :=
  match s.port.lowRead with
  | none => s
  | some r =>
    if r.sel = sel then
      settleRead sel r.busy (s.setPort { s.port with lowRead := none, pendingNibble := none, driven := .byte r.byte })
    else s

/-- What the data lines carry at the strobe that ends the transfer of a byte (R148, R149, log 3): in width 8 the
byte; in width 4 its low nibble on D7..D4. -/
def linesOf (w : Width) (b : Byte) : Byte :=
  match w with
  | .eight => b
  | .four => lowerNibble b ++ (0 : Nibble)

/-- The strobe that ends a command write of a byte. -/
def commandStrobe (b : Byte) (s : State) : State := strobe false false (linesOf s.port.width b) s

/-- The strobe that ends a staging write of a byte. -/
def stagingStrobe (b : Byte) (s : State) : State := strobe true false (linesOf s.port.width b) s

/-- The strobe that ends a read: of staging when `sel`, else of the status byte. -/
def readStrobe (sel : Bool) (s : State) : State := strobe sel true 0 s

/-- A read by the edges of its strobe that its step takes (R148, R153, log 3). -/
def readStep (sel : Bool) (x : StrobePart) (s : State) : State :=
  match x with
  | .whole => readStrobe sel s
  | .fall => readFall sel s
  | .rise => readRise sel s

/-- The strobe of a command row ends the command write of its byte (R148, R149): every strobe in width 8; in width 4 the
second one of a pair that brought the byte's high nibble. -/
def endsCommandWrite (b : Byte) (s : State) : Bool :=
  s.port.lowRead.isNone &&
    match s.port.width with
    | .eight => true
    | .four => decide (s.port.pendingNibble = some { sel := false, half := .write (upperNibble b) })

/-- RETIRE's strobe when its remove claim is served apart (log 4): where the strobe ends the write of byte 0x03 with
BUSY clear, the lookup alone is served; any other strobe does what it does for every row. -/
def retireLookupStrobe (s : State) : State :=
  if endsCommandWrite 0x03 s && !s.busy then retireLookup (s.strobed none .released) else commandStrobe 0x03 s

/-- RETIRE by the claims its step serves (R35, log 4). -/
def retireStep (x : RetirePart) (s : State) : State :=
  match x with
  | .whole => commandStrobe 0x03 s
  | .lookup => retireLookupStrobe s
  | .remove => retireRemoveStep s

/-- The nibble timer runs out (R150); nothing while no nibble is pending. -/
def nibbleTimeoutStep (s : State) : State := s.setPort { s.port with pendingNibble := none }

end Sys2Proof.Machine
end

