-- ==== Sys2Proof/Machine/HostRows.lean ====
section
/-!
DEFINITION. The rows that the host causes: the command bytes, the staging transfers, the status read, the first
nibble and the nibble timer's expiry. A command row is the strobe that ends its command write: in width 8 the whole
byte, in width 4 the second strobe, with the byte's low nibble (R149, R155, log 3). What the byte does once it is
accepted is said by the definition that `acceptCommand` names for it.
-/

namespace Sys2Proof.Machine

/-! ## Command bytes -/

/-- ADD, byte 0x01 (R27, R155). -/
def execAdd (s : State) : Host.Outcome State Fault Refusal := whenAwake (commandStrobe 0x01) s

/-- AMEND, byte 0x02 (R31, R155). -/
def execAmend (s : State) : Host.Outcome State Fault Refusal := whenAwake (commandStrobe 0x02) s

/-- RETIRE, byte 0x03 (R35, R155): whole, or its lookup, or the remove claim of a RETIRE in flight (log 4). -/
def execRetire (s : State) (x : RetirePart := .whole) : Host.Outcome State Fault Refusal :=
  whenAwake (retireStep x) s

/-- FETCH, byte 0x04 (R37, R155). -/
def execFetch (s : State) : Host.Outcome State Fault Refusal := whenAwake (commandStrobe 0x04) s

/-- FETCH RANK, byte 0x05 (R38, R155). -/
def execFetchRank (s : State) : Host.Outcome State Fault Refusal := whenAwake (commandStrobe 0x05) s

/-- FIND NEXT, byte 0x06 (R39, R155). -/
def execFindNext (s : State) : Host.Outcome State Fault Refusal := whenAwake (commandStrobe 0x06) s

/-- KEEPALIVE, byte 0x1A (R41, R155). -/
def execKeepalive (s : State) : Host.Outcome State Fault Refusal := whenAwake (commandStrobe 0x1A) s

/-- DEFINE PHRASE, byte 0x08 (R48, R155). -/
def execDefinePhrase (s : State) : Host.Outcome State Fault Refusal := whenAwake (commandStrobe 0x08) s

/-- RETIRE PHRASE, byte 0x09 (R49, R155). -/
def execRetirePhrase (s : State) : Host.Outcome State Fault Refusal := whenAwake (commandStrobe 0x09) s

/-- READ PHRASE, byte 0x0A (R50, R155). -/
def execReadPhrase (s : State) : Host.Outcome State Fault Refusal := whenAwake (commandStrobe 0x0A) s

/-- CONFIGURE VIEW, byte 0x10 (R75, R155). -/
def execConfigureView (s : State) : Host.Outcome State Fault Refusal := whenAwake (commandStrobe 0x10) s

/-- START VIEW, byte 0x11 (R94, R155). -/
def execStartView (s : State) : Host.Outcome State Fault Refusal := whenAwake (commandStrobe 0x11) s

/-- STOP VIEW, byte 0x12 (R95, R155). -/
def execStopView (s : State) : Host.Outcome State Fault Refusal := whenAwake (commandStrobe 0x12) s

/-- SHIFT VIEW, byte 0x13 (R96, R155). -/
def execShiftView (s : State) : Host.Outcome State Fault Refusal := whenAwake (commandStrobe 0x13) s

/-- READ VIEW, byte 0x14 (R97, R155). -/
def execReadView (s : State) : Host.Outcome State Fault Refusal := whenAwake (commandStrobe 0x14) s

/-- SET CLOCK, byte 0x18 (R59, R155). -/
def execSetClock (s : State) : Host.Outcome State Fault Refusal := whenAwake (commandStrobe 0x18) s

/-- NEW DAY, byte 0x19 (R65, R155). -/
def execNewDay (s : State) : Host.Outcome State Fault Refusal := whenAwake (commandStrobe 0x19) s

/-- SET STORE STATE, byte 0x20 (R129, R155). -/
def execSetStoreState (s : State) : Host.Outcome State Fault Refusal := whenAwake (commandStrobe 0x20) s

/-- CLEAR, byte 0x20 (R131, R155): SET STORE STATE, whose staged target is CLEARING (log 14). -/
def execClear (s : State) : Host.Outcome State Fault Refusal := whenAwake (commandStrobe 0x20) s

/-- READ STATE, byte 0x21 (R132, R155). -/
def execReadState (s : State) : Host.Outcome State Fault Refusal := whenAwake (commandStrobe 0x21) s

/-- CHECK TEST, byte 0x22 (R117, R155). -/
def execCheckTest (s : State) : Host.Outcome State Fault Refusal := whenAwake (commandStrobe 0x22) s

/-- SET PARAMETER, byte 0x28 (R159, R155). -/
def execSetParameter (s : State) : Host.Outcome State Fault Refusal := whenAwake (commandStrobe 0x28) s

/-- READ PARAMETER, byte 0x29 (R160, R155). -/
def execReadParameter (s : State) : Host.Outcome State Fault Refusal := whenAwake (commandStrobe 0x29) s

/-- READ EVENTS, byte 0x30 (R166, R155). -/
def execReadEvents (s : State) : Host.Outcome State Fault Refusal := whenAwake (commandStrobe 0x30) s

/-- CLEAR EVENTS, byte 0x31 (R166, R155). -/
def execClearEvents (s : State) : Host.Outcome State Fault Refusal := whenAwake (commandStrobe 0x31) s

/-- SET MASKS, byte 0x34 (R165, R155). -/
def execSetMasks (s : State) : Host.Outcome State Fault Refusal := whenAwake (commandStrobe 0x34) s

/-- READ CAPTURE, byte 0x32 (R169, R155). -/
def execReadCapture (s : State) : Host.Outcome State Fault Refusal := whenAwake (commandStrobe 0x32) s

/-- CLEAR CAPTURE, byte 0x33 (R169, R155). -/
def execClearCapture (s : State) : Host.Outcome State Fault Refusal := whenAwake (commandStrobe 0x33) s

/-- RESTART, byte 0x3F (R157, R155). -/
def execRestart (s : State) : Host.Outcome State Fault Refusal := whenAwake (commandStrobe 0x3F) s

/-- WIDTH 8, byte 0x40 (R154, R155). -/
def execWidth8 (s : State) : Host.Outcome State Fault Refusal := whenAwake (commandStrobe 0x40) s

/-- WIDTH 4, byte 0x41 (R154, R155). -/
def execWidth4 (s : State) : Host.Outcome State Fault Refusal := whenAwake (commandStrobe 0x41) s

/-- The POINTER byte with the low seven bits given (R154, R171). -/
def pointerByte (bits : BitVec 7) : Byte := (1#1) ++ bits

/-- POINTER, bytes 0x80 to 0xFF (R154, R155). -/
def execPointer (bits : BitVec 7) (s : State) : Host.Outcome State Fault Refusal :=
  whenAwake (commandStrobe (pointerByte bits)) s

/-- An unassigned command byte, 0x00 to 0x7F (R155). -/
def execBadCommand (byte : Byte) (s : State) : Host.Outcome State Fault Refusal := whenAwake (commandStrobe byte) s

/-! ## Transfers -/

/-- A staging write (R153): in width 4 its second strobe (R149). -/
def execStagingWrite (byte : Byte) (s : State) : Host.Outcome State Fault Refusal := whenAwake (stagingStrobe byte) s

/-- A staging read (R153): in width 4 its second strobe (R149); in width 8 the edges named (log 3). -/
def execStagingRead (s : State) (x : StrobePart := .whole) : Host.Outcome State Fault Refusal :=
  whenAwake (readStep true x) s

/-- A status read (R151, R152): in width 4 its second strobe (R149); in width 8 the edges named (log 3). -/
def execStatusRead (s : State) (x : StrobePart := .whole) : Host.Outcome State Fault Refusal :=
  whenAwake (readStep false x) s

/-- A strobe that becomes the pending nibble (R149, R150). The levels are the strobe's own, and what becomes of it
is decided as for every strobe (log 3). -/
def execFirstNibble (sel rw : Bool) (lines : Byte) (s : State) : Host.Outcome State Fault Refusal :=
  whenAwake (strobe sel rw lines) s

/-- The nibble timer runs out (R150). -/
def execNibbleTimeout (s : State) : Host.Outcome State Fault Refusal := whenAwake nibbleTimeoutStep s

end Sys2Proof.Machine
end

