-- ==== Sys2Proof/Machine/PartRows.lean ====
section
/-!
DEFINITION. The rows that the part's own units, its timers, the board drivers and the world outside cause. The queue
says when each comes; a row that cannot come in the state at hand changes nothing (log 2).
-/

namespace Sys2Proof.Machine

/-- ADD's grant (R28). -/
def execAddGrant (x : Extent) (s : State) : Host.Outcome State Fault Refusal := whenAwake (addGrantStep x) s

/-- AMEND's grant (R32). -/
def execAmendGrant (x : Extent) (s : State) : Host.Outcome State Fault Refusal := whenAwake (amendGrantStep x) s

/-- A fetch command's grant (R36). -/
def execFetchGrant (x : Extent) (s : State) : Host.Outcome State Fault Refusal := whenAwake (fetchGrantStep x) s

/-- A visit claim of NEW DAY (R66). -/
def execNewDayVisit (s : State) : Host.Outcome State Fault Refusal := whenAwake newDayVisitStep s

/-- NEW DAY's rebase grant (R67). -/
def execRebaseGrant (x : Extent) (s : State) : Host.Outcome State Fault Refusal := whenAwake (rebaseGrantStep x) s

/-- The grant of SET STORE STATE (R130). -/
def execStoreStateGrant (s : State) : Host.Outcome State Fault Refusal := whenAwake storeStateGrantStep s

/-- The grant of CHECK TEST (R117). -/
def execCheckTestGrant (s : State) : Host.Outcome State Fault Refusal := whenAwake checkTestGrantStep s

/-- A second tick (R56). -/
def execSecondTick (order : List TickHolder) (s : State) : Host.Outcome State Fault Refusal :=
  whenAwake (deliverTick order) s

/-- A minute advance (R57). -/
def execMinuteAdvance (s : State) : Host.Outcome State Fault Refusal := whenAwake minuteAdvanceStep s

/-- A step of a retirement pass (R61). -/
def execRetirementStep (s : State) : Host.Outcome State Fault Refusal := whenAwake passStep s

/-- The stale condition begins (R158). -/
def execStale (s : State) : Host.Outcome State Fault Refusal := whenAwake staleStep s

/-- A refresh timer expires (R89). -/
def execRefreshExpiry (view : Fin 4) (s : State) : Host.Outcome State Fault Refusal :=
  whenAwake (refreshExpiryStep view) s

/-- The composer takes the next ready view, or goes on with the row of the view it has taken (R79, R80). -/
def execCompositionStart (x : Extent) (s : State) : Host.Outcome State Fault Refusal :=
  whenAwake (compositionStep x) s

/-- The composer's grant (R81). -/
def execComposerGrant (x : Extent) (s : State) : Host.Outcome State Fault Refusal :=
  whenAwake (composerGrantStep x) s

/-- The rebuild copier's grant (R136). -/
def execCopierStep (x : Extent) (s : State) : Host.Outcome State Fault Refusal := whenAwake (copierGrantStep x) s

/-- A clearing step (R131). -/
def execClearingStep (s : State) : Host.Outcome State Fault Refusal := whenAwake clearingStepWork s

/-- The sweep timer expires (R144). -/
def execSweepTimerExpiry (s : State) : Host.Outcome State Fault Refusal := whenAwake sweepExpiryStep s

/-- The sweep's grant (R144, R145). -/
def execSweepStep (x : Extent) (s : State) : Host.Outcome State Fault Refusal := whenAwake (sweepGrantStep x) s

/-- A disturbance from outside (R116). -/
def execDisturbance (bank : Bank) (slot : Nat) (kind : DisturbanceKind) (s : State) : Host.Outcome State Fault Refusal :=
  whenAwake (arriveDisturbance bank slot kind) s

/-- A frame ends (R103). -/
def execFrameEnd (link : Fin 4) (s : State) : Host.Outcome State Fault Refusal := whenAwake (frameEndStep link) s

/-- A rising edge on TAKE (R104). -/
def execTake (link : Fin 4) (s : State) : Host.Outcome State Fault Refusal := whenAwake (takeStep link) s

/-- A take timer expires (R106). -/
def execLinkLost (link : Fin 4) (s : State) : Host.Outcome State Fault Refusal := whenAwake (linkLostStep link) s

/-- The link-combination reset (R110): the full reset it gives at a second tick (log 7). -/
def execLinkCombinationReset (s : State) : Host.Outcome State Fault Refusal := whenAwake combinationReset s

/-- A change of a line from outside, which the part takes unless RESET_N is low (R108, R161, log 11). -/
def lineChange (line event : State → State) (s : State) : Host.Outcome State Fault Refusal :=
  .next (if s.inReset then line s else event (line s))

/-- ADVANCE rises (R108). -/
def execAdvanceRise (link : Fin 4) (s : State) : Host.Outcome State Fault Refusal :=
  lineChange (setAdvanceLine link true) (advanceRiseStep link) s

/-- ADVANCE is released (R108). -/
def execAdvanceRelease (link : Fin 4) (s : State) : Host.Outcome State Fault Refusal :=
  lineChange (setAdvanceLine link false) (advanceReleaseStep link) s

/-- RESET_N goes low (R161). -/
def execResetN (s : State) : Host.Outcome State Fault Refusal := .next (resetNStep s)

/-- RESET_N rises (R161). -/
def execResetNRelease (s : State) : Host.Outcome State Fault Refusal := .next (resetNReleaseStep s)

/-- Power-on (R133): a full reset of every block. -/
def execPowerOn (s : State) : Host.Outcome State Fault Refusal := .next (fullReset s)

end Sys2Proof.Machine
end

