-- ==== Sys2Proof/Machine/Dispatch.lean ====
section
/-!
DEFINITION. The meaning of every row of the opcode table: one arm for each.
-/

namespace Sys2Proof.Machine

def exec (i : Instr) (s : State) : Host.Outcome State Fault Refusal :=
  match i with
  | .add => Sys2Proof.Machine.execAdd s
  | .addGrant x => Sys2Proof.Machine.execAddGrant x s
  | .amend => Sys2Proof.Machine.execAmend s
  | .amendGrant x => Sys2Proof.Machine.execAmendGrant x s
  | .retire x => Sys2Proof.Machine.execRetire s x
  | .fetch => Sys2Proof.Machine.execFetch s
  | .fetchRank => Sys2Proof.Machine.execFetchRank s
  | .findNext => Sys2Proof.Machine.execFindNext s
  | .fetchGrant x => Sys2Proof.Machine.execFetchGrant x s
  | .keepalive => Sys2Proof.Machine.execKeepalive s
  | .definePhrase => Sys2Proof.Machine.execDefinePhrase s
  | .retirePhrase => Sys2Proof.Machine.execRetirePhrase s
  | .readPhrase => Sys2Proof.Machine.execReadPhrase s
  | .configureView => Sys2Proof.Machine.execConfigureView s
  | .startView => Sys2Proof.Machine.execStartView s
  | .stopView => Sys2Proof.Machine.execStopView s
  | .shiftView => Sys2Proof.Machine.execShiftView s
  | .readView => Sys2Proof.Machine.execReadView s
  | .setClock => Sys2Proof.Machine.execSetClock s
  | .newDay => Sys2Proof.Machine.execNewDay s
  | .newDayVisit => Sys2Proof.Machine.execNewDayVisit s
  | .rebaseGrant x => Sys2Proof.Machine.execRebaseGrant x s
  | .setStoreState => Sys2Proof.Machine.execSetStoreState s
  | .clear => Sys2Proof.Machine.execClear s
  | .storeStateGrant => Sys2Proof.Machine.execStoreStateGrant s
  | .readState => Sys2Proof.Machine.execReadState s
  | .checkTest => Sys2Proof.Machine.execCheckTest s
  | .checkTestGrant => Sys2Proof.Machine.execCheckTestGrant s
  | .setParameter => Sys2Proof.Machine.execSetParameter s
  | .readParameter => Sys2Proof.Machine.execReadParameter s
  | .readEvents => Sys2Proof.Machine.execReadEvents s
  | .clearEvents => Sys2Proof.Machine.execClearEvents s
  | .setMasks => Sys2Proof.Machine.execSetMasks s
  | .readCapture => Sys2Proof.Machine.execReadCapture s
  | .clearCapture => Sys2Proof.Machine.execClearCapture s
  | .restart => Sys2Proof.Machine.execRestart s
  | .pointer bits => Sys2Proof.Machine.execPointer bits s
  | .width8 => Sys2Proof.Machine.execWidth8 s
  | .width4 => Sys2Proof.Machine.execWidth4 s
  | .badCommand byte => Sys2Proof.Machine.execBadCommand byte s
  | .stagingWrite byte => Sys2Proof.Machine.execStagingWrite byte s
  | .stagingRead x => Sys2Proof.Machine.execStagingRead s x
  | .nibbleTimeout => Sys2Proof.Machine.execNibbleTimeout s
  | .secondTick order => Sys2Proof.Machine.execSecondTick order s
  | .minuteAdvance => Sys2Proof.Machine.execMinuteAdvance s
  | .retirementStep => Sys2Proof.Machine.execRetirementStep s
  | .stale => Sys2Proof.Machine.execStale s
  | .refreshExpiry view => Sys2Proof.Machine.execRefreshExpiry view s
  | .compositionStart x => Sys2Proof.Machine.execCompositionStart x s
  | .composerGrant x => Sys2Proof.Machine.execComposerGrant x s
  | .copierStep x => Sys2Proof.Machine.execCopierStep x s
  | .clearingStep => Sys2Proof.Machine.execClearingStep s
  | .sweepTimerExpiry => Sys2Proof.Machine.execSweepTimerExpiry s
  | .sweepStep x => Sys2Proof.Machine.execSweepStep x s
  | .disturbance bank slot kind => Sys2Proof.Machine.execDisturbance bank slot kind s
  | .frameEnd link => Sys2Proof.Machine.execFrameEnd link s
  | .take link => Sys2Proof.Machine.execTake link s
  | .linkLost link => Sys2Proof.Machine.execLinkLost link s
  | .advanceRise link => Sys2Proof.Machine.execAdvanceRise link s
  | .advanceRelease link => Sys2Proof.Machine.execAdvanceRelease link s
  | .linkCombinationReset => Sys2Proof.Machine.execLinkCombinationReset s
  | .resetN => Sys2Proof.Machine.execResetN s
  | .powerOn => Sys2Proof.Machine.execPowerOn s
  | .firstNibble sel rw lines => Sys2Proof.Machine.execFirstNibble sel rw lines s
  | .statusRead x => Sys2Proof.Machine.execStatusRead s x
  | .resetNRelease => Sys2Proof.Machine.execResetNRelease s

end Sys2Proof.Machine
end

