-- ==== Sys2Proof/Machine/Step.lean ====
section
/-!
DEFINITION. One step of the part: the command at the front of the queue, with the queue's rest.
-/

namespace Sys2Proof.Machine

/-- Put the queue of waiting commands. -/
def State.withPending (s : State) (q : List Instr) : State := { s with pending := q }

/-- A step takes the command at the front of the queue and runs it on the state with the queue's rest; with an empty
queue the part idles (DESIGN CHOICE, log 1). -/
def step (s : State) : Host.Outcome State Fault Refusal :=
  match s.pending with
  | [] => .next s
  | c :: rest => exec c (s.withPending rest)

/-- The state with the command that a word spells put at the front of its queue; no word spells one, since the table
gives its rows no bits. -/
def State.withFetchWord (s : State) (nbits w : Nat) : State :=
  match decodeTableWord nbits w with
  | none => s
  | some c => s.withPending (c :: s.pending)

end Sys2Proof.Machine
end

