-- ==== Sys2Proof/WellFormed.lean ====
section
/-!
DEFINITION. Which commands are well formed: the operands that the rows' rules allow.
-/

namespace Sys2Proof

/-- The checks on a command's operands.
BAD_COMMAND carries an unassigned byte 0x00..0x7F (R155); a second tick reaches each of its four holders once (R56), the
View Engine under one of its two names; a disturbance damages one of the 512 copies (R114, R116). Every other operand is
in range by its type. -/
def Instr.wellFormed : Instr → Bool
  | .badCommand byte => byte.toNat < 0x80 && !assignedCommandBytes.contains byte.toNat
  | .secondTick order =>
      order.length == 4 && order.contains .serviceClock && order.contains .controlPort &&
        (order.contains .viewEngine || order.contains .viewTimers) && order.contains .boardLinks
  | .disturbance _ slot _ => slot < Config.slots
  | _ => true

end Sys2Proof
end

