-- ==== Sys2Proof/Safety.lean ====
section
/-!
DEFINITION. The words the statements are written in: when a strobe ends a transfer, what a completion leaves in the
port, what a request leaves in the arbiter, and the laws of the device that every step keeps.
-/

namespace Sys2Proof.Machine

/-! ## Transfers -/

/-- The next strobe, with SEL as given and RW low, ends a write of the byte `b` (R148, R149): any such strobe in
width 8; in width 4 the second strobe of a pair whose first carried the high nibble. -/
def WriteReady (sel : Bool) (b : Byte) (s : State) : Prop :=
  s.inReset = false ∧ s.port.lowRead = none ∧
    (s.port.width = .eight ∨
      (s.port.width = .four ∧ s.port.pendingNibble = some { sel := sel, half := .write (upperNibble b) }))

/-- The next strobe ends the command write of the byte `b`, and no command is in flight, so the byte is taken
(R155). -/
def CommandReady (b : Byte) (s : State) : Prop := WriteReady false b s ∧ s.cmd = none

/-- The port after a command that completes as it is taken (R149, R156): no nibble pending, the lines not driven, the
result code, and the outputs where there are any. A qualifying completion restarts the silence count (R158). -/
def portAfter (p : ControlPort) (rc : ResultCode) (out : Option (List Byte)) (qualifies : Bool) : ControlPort :=
  { p with
    pendingNibble := none
    driven := .released
    lastResult := rc
    staging := outputStaging out p.staging
    silence := if qualifies then 0 else p.silence
    stale := if qualifies then false else p.stale }

/-- The port after the strobe of a command that goes on (R149, R155). -/
def portTaken (p : ControlPort) : ControlPort := { p with pendingNibble := none, driven := .released }

/-- The state after a command that completed as it was taken and changed nothing but the port. -/
def State.onlyPort (s : State) (p : ControlPort) : State := { s with port := p }

/-- The byte that each command row's strobe ends the write of (R171). CLEAR is SET STORE STATE's byte (R131). -/
def commandByteOf : Instr → Option Byte
  | .add => some 0x01
  | .amend => some 0x02
  | .retire .whole => some 0x03
  | .retire .lookup => some 0x03
  | .fetch => some 0x04
  | .fetchRank => some 0x05
  | .findNext => some 0x06
  | .definePhrase => some 0x08
  | .retirePhrase => some 0x09
  | .readPhrase => some 0x0A
  | .configureView => some 0x10
  | .startView => some 0x11
  | .stopView => some 0x12
  | .shiftView => some 0x13
  | .readView => some 0x14
  | .setClock => some 0x18
  | .newDay => some 0x19
  | .keepalive => some 0x1A
  | .setStoreState => some 0x20
  | .clear => some 0x20
  | .readState => some 0x21
  | .checkTest => some 0x22
  | .setParameter => some 0x28
  | .readParameter => some 0x29
  | .readEvents => some 0x30
  | .clearEvents => some 0x31
  | .readCapture => some 0x32
  | .clearCapture => some 0x33
  | .setMasks => some 0x34
  | .restart => some 0x3F
  | .width8 => some 0x40
  | .width4 => some 0x41
  | .pointer bits => some (pointerByte bits)
  | .badCommand byte => some byte
  | _ => none

/-- The byte whose command write a strobe with D7..D0 at `lines` ends (R148, R149), where it ends one: in width 8 the
lines; in width 4 the pending high nibble of a command write with the nibble on D7..D4. None while the strobe of a read
is low. -/
def strobeEnds (lines : Byte) (s : State) : Option Byte :=
  match s.port.lowRead, s.port.width with
  | some _, _ => none
  | none, .eight => some lines
  | none, .four =>
    match s.port.pendingNibble with
    | some { sel := false, half := .write high } => some (high ++ upperNibble lines)
    | _ => none

/-- The command byte whose write a row's strobe ends in the state at hand, where it ends one. -/
def commandWritten (i : Instr) (s : State) : Option Byte :=
  match i with
  | .firstNibble false false lines => strobeEnds lines s
  | _ => (commandByteOf i).bind fun b => strobeEnds (linesOf s.port.width b) s

/-- The rows that may give a full reset in the state at hand (R110, R161). -/
def GivesFullReset (i : Instr) (s : State) : Prop :=
  i = .powerOn ∨ i = .resetN ∨ (i = .resetNRelease ∧ s.inReset = true) ∨
    (s.inReset = false ∧ i = .linkCombinationReset ∧ combinationHeld s = true) ∨
    (s.inReset = false ∧ ∃ order, i = .secondTick order ∧
      ((Instr.secondTick order).wellFormed = true → combinationHeld (holdTimersTick s) = true))

/-- The rows that act while RESET_N is low: the lines from outside and the resets themselves (R161). -/
def actsInReset : Instr → Bool
  | .advanceRise _ => true
  | .advanceRelease _ => true
  | .resetN => true
  | .resetNRelease => true
  | .powerOn => true
  | _ => false

/-- The state after an OVERRUN (R153, R155, R167, R168): the flag, the offer to the first-error capture, and the port
as given. -/
def State.overrun (s : State) (p : ControlPort) : State :=
  { s with
    port := p
    events := s.events.take
      { kind := .overrun, minute := s.captureMinute, slot := none, key := none, bank := none, link := none,
        operation := .port } }

/-- The pointer one place on in its direction, 31 and 0 being neighbours (R153). -/
def pointerMoved (p : ControlPort) : BitVec 5 := if p.direction = .increment then p.pointer + 1 else p.pointer - 1

/-! ## Field ranges (R23) -/

/-- A minute that is present lies in 0..2879. -/
def MinuteInRange (m : Option Nat) : Prop := ∀ n, m = some n → n ≤ 2879

/-- At most four attribute codes, each 1..31, none twice. -/
def AttributesInRange (count : Nat) (codes : List Nat) : Prop :=
  count ≤ 4 ∧ (∀ c ∈ codes, 1 ≤ c ∧ c ≤ 31) ∧ codes.Nodup

/-- The range tests of ADD on the staged record (R23, R27). -/
def AddFieldsInRange (s : State) : Prop :=
  1 ≤ s.stagedKey ∧ s.word 2 ≤ 2879 ∧ MinuteInRange s.stagedExpected ∧ s.place 6 ≤ 63 ∧
    (1 ≤ s.place 8 ∧ s.place 8 ≤ 63) ∧ s.place 9 ≤ 63 ∧ AttributesInRange (s.place 10) s.stagedAttributes

/-- The range tests of AMEND on the key and the fields that its mask selects (R23, R31). -/
def AmendFieldsInRange (s : State) : Prop :=
  1 ≤ s.stagedKey ∧ (s.selects .scheduled = true → s.word 2 ≤ 2879) ∧
    (s.selects .expected = true → MinuteInRange s.stagedExpected) ∧
    (s.selects .platform = true → s.place 6 ≤ 63) ∧
    (s.selects .destination = true → 1 ≤ s.place 8 ∧ s.place 8 ≤ 63) ∧
    (s.selects .via = true → s.place 9 ≤ 63) ∧
    (s.selects .attributes = true → AttributesInRange (s.place 10) s.stagedAttributes)

/-- The phrase is DEFINED (R24). -/
def PhraseDefined (s : State) (n : Nat) : Prop := (s.phrase n).state = .defined

/-- An optional phrase, when present, is DEFINED (R24). -/
def OptPhraseDefined (s : State) (v : Option Nat) : Prop := ∀ n, v = some n → PhraseDefined s n

/-! ## Requests and grants -/

/-- The arbiter after the request of a grant `g` (R118): granted at once when the port is free and no request waits,
else waiting. -/
def arbAfterRequest (a : Arbiter) (g : Grant) : Arbiter :=
  if a.held = none ∧ a.waiting.first = none then
    { held := some g, waiting := a.waiting.put g.holder false, deferred := [] }
  else { a with waiting := a.waiting.put g.holder true }

/-- The state after a command that asks for a grant (R42, R118): in flight, its request made, nothing else changed
but the strobe's own marks. -/
def State.commandAsks (s : State) (c : InFlight) (slot : Option Nat) (key : Nat) : State :=
  { s with
    port := portTaken s.port
    cmd := some c
    arb := arbAfterRequest s.arb { holder := .command, slot := slot, key := key, progress := .begun } }

/-- The grant of requester `r` on `slot` has been made and its first access is due; no disturbance waits for it. -/
def GrantBegun (r : Requester) (slot : Option Nat) (key : Nat) (s : State) : Prop :=
  s.inReset = false ∧ s.arb.deferred = [] ∧
    s.arb.held = some { holder := r, slot := slot, key := key, progress := .begun }

/-- The copy of a record body that a write leaves at a sound location (R115). -/
def goodCopy (r : RecordBody) : Copy := { contents := .body r, check := .good, stuck := false }

/-- The banks that a body write to a slot reaches (R125, R140). -/
def writtenBanks (s : State) (slot : Nat) : List Bank :=
  match s.store.state with
  | .single => [s.store.primary]
  | .degraded => [s.store.primary]
  | .mirrored => [.A, .B]
  | .rebuilding => if slot < s.store.rebuildCursor then [.A, .B] else [s.store.primary]
  | .uninit => []
  | .clearing => []
  | .ready => []
  | .failed => []

/-- No copy that a body write to the slot reaches is stuck. -/
def WriteHolds (s : State) (slot : Nat) : Prop := ∀ b ∈ writtenBanks s slot, (s.copy b slot).stuck = false

/-- Every copy that a body write to the slot reaches holds the body, GOOD. -/
def WrittenTo (s t : State) (slot : Nat) (r : RecordBody) : Prop := ∀ b ∈ writtenBanks s slot, t.copy b slot = goodCopy r

/-- The primary copy of the slot is GOOD and holds the body, so that a read uses it (R121, R122, R124). -/
def PrimaryHolds (s : State) (slot : Nat) (r : RecordBody) : Prop :=
  (s.copy s.store.primary slot).check = .good ∧ (s.copy s.store.primary slot).contents = .body r

/-- No copy that a demand read of the slot may use yields the body (R126). -/
def Unreadable (s : State) (slot : Nat) : Prop :=
  (s.copy s.store.primary slot).check = .uncorrectable ∧
    (s.store.state = .mirrored → (s.copy (otherBank s.store.primary) slot).check = .uncorrectable)

/-- The command in flight has ended with the result code, and nothing else of the port is changed (R22). -/
def EndedWith (rc : ResultCode) (s t : State) : Prop := t.cmd = none ∧ t.port = { s.port with lastResult := rc }

/-- The free composer takes view `v` next (R79): the hold is clear, the view is ready, and no view between the one last
served and it is. -/
def NextToCompose (v : Fin 4) (s : State) : Prop :=
  s.composer.work = .free ∧ s.clock.hold = false ∧ (s.view v).state = .running ∧ (s.link v).parked = none ∧
    ∀ u : Fin 4, (u - s.composer.lastServed - 1).val < (v - s.composer.lastServed - 1).val →
      ¬ ((s.view u).state = .running ∧ (s.link u).parked = none)

/-- The key of the live record in a slot, if any. -/
def keyIn (slot : Nat) (s : State) : Option Nat := (s.entries.find? fun e => e.slot == slot).map fun e => e.key

/-- The capture record of an event of a grant (R167, R168). -/
def captureAt (k : EventKind) (slot : Nat) (key : Option Nat) (bank : Option Bank) (op : Operation) (s : State) :
    Capture :=
  { kind := k, minute := s.captureMinute, slot := some slot, key := key, bank := bank, link := none, operation := op }

/-- A copy after a failed verify (R115): its contents as they were, UNCORRECTABLE. -/
def failedCopy (c : Copy) : Copy := { c with check := .uncorrectable }

/-- A store that a grant has failed (R128): FAILED with its banks kept, the Directory closed and empty, STORE_FAILED
offered to the first-fatal capture with the bank given. -/
def FailedFrom (s t : State) (slot : Nat) (key : Option Nat) (bank : Option Bank) (op : Operation) : Prop :=
  t.store = { s.store with state := .failed, origin := none } ∧ t.dir = { isOpen := false, order := [] } ∧
    t.phrases = (s.dir.order.foldl (fun u e => releaseEntry e u) s).phrases ∧
    t.events.firstFatal = s.events.firstFatal.or (some (captureAt .storeFailed slot key bank op s)) ∧
    t.events.firstError = s.events.firstError

/-- A bank lost while MIRRORED (R127): DEGRADED with the other bank primary, BANK_LOST offered to the first-error
capture. -/
def BankLostFrom (s t : State) (slot : Nat) (key : Option Nat) (lost : Bank) (op : Operation) : Prop :=
  t.store = { s.store with state := .degraded, primary := otherBank lost, failedBank := some lost } ∧
    t.events = { s.events with
      firstError := s.events.firstError.or (some (captureAt .bankLost slot key (some lost) op s)) }

/-- Nothing but what a grant step may touch is changed: the queue, the RESET_N line, the clock, the Retirement Unit,
the links, the composer and the views stay. -/
def SameElsewhere (s t : State) : Prop :=
  t.pending = s.pending ∧ t.inReset = s.inReset ∧ t.clock = s.clock ∧ t.retire = s.retire ∧ t.links = s.links ∧
    t.views = s.views ∧ t.composer = s.composer

/-- Every copy but those of `slot` in the banks that `banks` names is unchanged. -/
def OtherCopiesKept (s t : State) (banks : List Bank) (slot : Nat) : Prop :=
  ∀ b n, ¬ (b ∈ banks ∧ n = slot) → t.copy b n = s.copy b n

/-- Only the sweep's mark may differ (R144): its cursor and timer stay. -/
def SameSweep (s t : State) : Prop := t.sweep.cursor = s.sweep.cursor ∧ t.sweep.timer = s.sweep.timer

/-- A step has ended its grant on the state `s`: the arbiter and the sweep are as the grant's end leaves them, the port
having gone to the waiting requester that stands first (R118). -/
def GrantEnded (s t : State) : Prop := t.arb = (endGrant s).arb ∧ t.sweep = (endGrant s).sweep

/-- The arbiter with the copier's and the sweep's requests as given. -/
def State.withRequests (s : State) (copier sweep : Bool) : State :=
  { s with arb := { s.arb with waiting := { s.arb.waiting with copier := copier, sweep := sweep } } }

/-- The copier's step on a slot has ended its grant and requested the next, on the slot after it (R118, R136). -/
def CopierAskedNext (slot : Nat) (s t : State) : Prop :=
  t.arb = arbAfterRequest (endGrant { s with store := t.store }).arb
      { holder := .copier, slot := some (slot + 1), key := 0, progress := .begun } ∧
    t.sweep = (endGrant { s with store := t.store }).sweep

/-- The body with its times one day earlier, and whether the scheduled time was clamped (R67): without an expected time
the scheduled time falls by 1440; with one both fall, but a scheduled time of the old day becomes 0 with carried set. -/
def RebasedTo (r r' : RecordBody) (clamped : Bool) : Prop :=
  (r.expected = none ∧ r' = { r with scheduled := r.scheduled - 1440 } ∧ clamped = false) ∨
    (∃ m, r.expected = some m ∧ 1440 ≤ r.scheduled ∧
      r' = { r with expected := some (m - 1440), scheduled := r.scheduled - 1440 } ∧ clamped = false) ∨
    (∃ m, r.expected = some m ∧ r.scheduled < 1440 ∧
      r' = { r with expected := some (m - 1440), scheduled := 0, carried := true } ∧ clamped = true)

/-- What the find claim of FETCH RANK or FIND NEXT answers in the open Directory, and the result of one that finds
nothing (R38, R39). -/
def FindAnswers (how : Find) (s : State) (found : Option Entry) (rc : ResultCode) : Prop :=
  (∃ r, how = .byRank r ∧ found = s.dir.order[r]? ∧ rc = .noSuchRank) ∨
    ∃ p, how = .after p ∧ (found = s.dir.order.find? fun y => posBefore p (entryPos y)) ∧ rc = .endOfOrder

/-- Every copy is unchanged. -/
def SameCopies (s t : State) : Prop := ∀ b n, t.copy b n = s.copy b n

/-- Every block is at its full-reset values, each link taking its ADVANCE level from the line, and the queue is kept
(R19, R42, R55, R70, R98, R112, R133, R147, R148, R170). That the queue and the lines from outside are kept and the data
lines released is log 10, and that a read whose strobe is low loses its sample is log 22 (DESIGN CHOICES). -/
def FullResetOf (s t : State) : Prop :=
  t.pending = s.pending ∧ t.port = ControlPort.reset ∧ t.cmd = none ∧ t.dir = State.reset.dir ∧
    t.mem = State.reset.mem ∧ t.store = StoreController.reset ∧ t.arb = Arbiter.reset ∧ t.sweep = State.reset.sweep ∧
    t.phrases = State.reset.phrases ∧ t.clock = State.reset.clock ∧ t.retire = State.reset.retire ∧
    t.views = State.reset.views ∧ t.composer = State.reset.composer ∧ t.events = EventUnit.reset ∧
    ∀ n : Fin 4, t.link n = Link.reset (s.link n).line

/-- The targets that SET STORE STATE may ask for in each store state: the rows of R129's table. -/
def AllowedTarget (current target : StoreState) : Prop :=
  (target = .clearing ∧ current ≠ .clearing) ∨
    (target = .single ∧ (current = .ready ∨ current = .mirrored ∨ current = .rebuilding)) ∨
    (target = .mirrored ∧ (current = .ready ∨ current = .single ∨ current = .degraded))

/-! ## Laws of the device -/

/-- The canonical form of Record Memory (Machine/Ops.lean). -/
def MemoryCanonical (s : State) : Prop := s.mem.wf = true

/-- The Service Clock's ranges and the day-change hold (R56, R58, R60, R69): the hold stands exactly while NEW DAY is
in flight, and no pass is WALKING while it stands. -/
def ClockLaw (s : State) : Prop :=
  s.clock.seconds < 60 ∧ s.clock.minute ≤ 2879 ∧
    (s.clock.hold = true ↔ ∃ d, s.cmd = some (.newDay d)) ∧ (s.clock.hold = true → s.retire.pass = none)

/-- A link's state and its places agree (R99, R100). -/
def LinkLaw (l : Link) : Prop :=
  (l.slot = none ↔ l.state = .idle ∨ l.state = .lost) ∧ (l.slot = none → l.parked = none) ∧
    (l.takeTimer ≠ none ↔ l.state = .awaitTake) ∧ (l.frame ≠ [] ↔ l.state = .sending)

/-- A composition is in flight for view `v`: the composer has taken it, searches for it, or waits for or holds a grant
on its candidate (R79). -/
def ComposingFor (v : Fin 4) (s : State) : Prop :=
  s.composer.work = .taken v ∨ s.composer.work = .searching v ∨ ∃ e, s.composer.work = .candidate v e

/-- A composition in flight for view `v` has been abandoned (R92): where there is none, the composer and the arbiter are
as they were; before a candidate is found the composer is free at once; a request that waits for the candidate's grant
is dropped, and a grant that is held runs on to its end. The other requests, the grant in progress and the disturbances
that wait for its end stay, and so does the view last served. -/
def AbandonedFor (v : Fin 4) (s t : State) : Prop :=
  t.composer.lastServed = s.composer.lastServed ∧
    (¬ ComposingFor v s → t.composer = s.composer ∧ t.arb = s.arb) ∧
    (s.composer.work = .taken v ∨ s.composer.work = .searching v → t.composer.work = .free ∧ t.arb = s.arb) ∧
    ∀ e, s.composer.work = .candidate v e →
      (s.grantOf .composer = none →
        t.composer.work = .free ∧ t.arb = { s.arb with waiting := { s.arb.waiting with composer := false } }) ∧
      (s.grantOf .composer ≠ none → t.composer.work = .draining ∧ t.arb = s.arb)

/-- A view and its link agree (R76, R79, R88): HALTED with LOST, PARKED with a parked row and a resume action, RESTING
with a running refresh timer, and a view being composed for is RUNNING. -/
def ViewLaw (v : Fin 4) (s : State) : Prop :=
  ((s.view v).state = .halted ↔ (s.link v).state = .lost) ∧
    ((s.view v).state = .parked ↔ (s.link v).parked ≠ none) ∧
    ((s.view v).state = .parked ↔ (s.view v).resume ≠ none) ∧
    ((s.view v).state = .resting ↔ (s.view v).refreshTimer ≠ none) ∧
    (ComposingFor v s → (s.view v).state = .running)

/-- The law of R99 and R100 on every link, with the law of R76 on every view. -/
def ViewsAndLinksLaw (s : State) : Prop := ∀ v : Fin 4, LinkLaw (s.link v) ∧ ViewLaw v s

/-- The Directory's law (R9, R10, R11, R14): open exactly while the store serves records, empty while closed, the
order strictly rising by (effective time, key), no key twice, no slot twice, every slot one of the 256; and the
origin of a rebuild is SINGLE or DEGRADED (R129). -/
def DirectoryLaw (s : State) : Prop :=
  s.dir.isOpen = s.serving ∧ (s.dir.isOpen = false → s.dir.order = []) ∧
    s.dir.order.Pairwise (fun a b => posBefore (entryPos a) (entryPos b) = true) ∧
    (s.dir.order.map fun e => e.key).Nodup ∧ (s.dir.order.map fun e => e.slot).Nodup ∧
    (∀ e ∈ s.dir.order, e.slot < 256) ∧
    (s.store.origin = none ∨ s.store.origin = some .single ∨ s.store.origin = some .degraded)

/-- The command in flight wants the port: it is one that takes grants, and a NEW DAY has an entry to rebase. -/
def WantsPort : InFlight → Prop
  | .add _ _ => True
  | .amend _ _ _ => True
  | .retire _ _ _ => False
  | .fetch _ _ _ _ => True
  | .refetch _ _ _ => False
  | .newDay d => d.rebase ≠ none
  | .storeState _ _ => True
  | .checkTest _ _ _ => True

/-- A grant is the grant of what its requester asks for now (R118, R119, R136). -/
def GrantLaw (g : Grant) (s : State) : Prop :=
  match g.holder with
  | .command => ∃ c, s.cmd = some c ∧ WantsPort c ∧ g.slot = (commandTarget c).1
  | .composer => s.composer.work = .draining ∨ ∃ v e, s.composer.work = .candidate v e ∧ g.slot = some e.slot
  | .copier => s.store.state = .rebuilding ∧ g.slot = some s.store.rebuildCursor
  | .sweep => True

/-- The arbiter's law (R118): no request waits while the port is free; a request that waits is one that its requester
still makes; the holder has no second request but the sweep, which may be started again during its own step. -/
def ArbiterLaw (s : State) : Prop :=
  (s.arb.held = none → s.arb.waiting.first = none) ∧
    (s.arb.waiting.command = true → ∃ c, s.cmd = some c ∧ WantsPort c) ∧
    (s.arb.waiting.composer = true → ∃ v e, s.composer.work = .candidate v e) ∧
    (s.arb.waiting.copier = true → s.store.state = .rebuilding) ∧
    (∀ g, s.arb.held = some g → GrantLaw g s ∧ (g.holder = .command → s.arb.waiting.command = false) ∧
      (g.holder = .composer → s.arb.waiting.composer = false) ∧ (g.holder = .copier → s.arb.waiting.copier = false))

/-- Both copies of a slot recover the same contents wherever both recover any (R125). -/
def CopiesAgree (s : State) (n : Nat) : Prop :=
  (s.copy .A n).check ≠ .uncorrectable → (s.copy .B n).check ≠ .uncorrectable →
    (s.copy .A n).contents = (s.copy .B n).contents

/-- The slots that the law of R125 is about: every slot while MIRRORED, those below the cursor while REBUILDING. -/
def MirroredSlot (s : State) (n : Nat) : Prop :=
  s.store.state = .mirrored ∨ (s.store.state = .rebuilding ∧ n < s.store.rebuildCursor)

/-- A slot holds a live record, or the body that an ADD in its grant has written for one (R28). -/
def LiveOrWritten (s : State) (n : Nat) : Prop :=
  s.occupied n = true ∨
    ∃ g r c key, s.arb.held = some g ∧ g.holder = .command ∧ g.progress = .accessed r c ∧ s.cmd = some (.add key n)

/-- The law of R125: in MIRRORED the two copies of every live slot hold the same body wherever both can be read, and
in REBUILDING those below the cursor do. A slot that the copier found free stays free in its grant (R134). -/
def MirrorLaw (s : State) : Prop :=
  (∀ n, MirroredSlot s n → LiveOrWritten s n → CopiesAgree s n) ∧
    (∀ g n, s.arb.held = some g → g.holder = .copier → g.slot = some n → g.progress = .queried none →
      s.occupied n = false)

/-- How often an entry names a phrase: as its destination and as its via (R45). -/
def usesOf (n : Nat) (e : Entry) : Nat := (if e.destination = n then 1 else 0) + (if e.via = some n then 1 else 0)

/-- The law of R45, with the texts of R43 and R44: a phrase's count is the number of entries' destinations and vias that
name it and one for P5; a FREE phrase has count 0 and no text, a RETIRING one a count of at least 1, and every other
phrase a text of 1 to 24 codes. -/
def PhraseLaw (s : State) : Prop :=
  ∀ n, 1 ≤ n → n ≤ 63 →
    (s.phrase n).count = (s.dir.order.map (usesOf n)).sum + (if s.params.noticePhrase = n then 1 else 0) ∧
    ((s.phrase n).state = .free → (s.phrase n).count = 0 ∧ (s.phrase n).text = []) ∧
    ((s.phrase n).state = .retiring → 1 ≤ (s.phrase n).count) ∧
    ((s.phrase n).state ≠ .free → 1 ≤ (s.phrase n).text.length ∧ (s.phrase n).text.length ≤ 24)

/-- The grant in progress is the Command Unit's, between its body access and the claim that follows it, with the body
given (R28, R32, R67, log 4). -/
def BodyWritten (s : State) (r : RecordBody) : Prop :=
  ∃ g clamped, s.arb.held = some g ∧ g.holder = .command ∧ g.progress = .accessed r clamped

/-- The command in flight is about to make the update claim of the entry (R16). -/
def Updates (s : State) (key slot : Nat) : Prop :=
  (∃ rank, s.cmd = some (.amend key slot rank)) ∨ ∃ d, s.cmd = some (.newDay d) ∧ d.rebase = some (key, slot)

/-- Every copy of a slot that serves and can be read holds the body given. -/
def ServingCopiesHold (s : State) (slot : Nat) (r : RecordBody) : Prop :=
  ∀ b ∈ writtenBanks s slot, (s.copy b slot).check ≠ .uncorrectable → (s.copy b slot).contents = .body r

/-- The law of R7: a serving copy of a live record that can be read holds the body that the entry copies, or, between
the body write of an AMEND or a rebase and its update claim, the body that the claim will copy. -/
def BodyLaw (s : State) : Prop :=
  ∀ e ∈ s.dir.order, ∀ b ∈ writtenBanks s e.slot, (s.copy b e.slot).check ≠ .uncorrectable →
    ∃ r, (s.copy b e.slot).contents = .body r ∧ r.key = e.key ∧
      (entryOf r e.slot = e ∨ (BodyWritten s r ∧ Updates s e.key e.slot))

/-- What holds of a command between its tests and its last claim (R15, R24, R51): an ADD's slot is free, an AMEND's
and a rebase's slot holds no other record; the phrases that the claim will take are DEFINED; and once the body is
written, the serving copies hold it. -/
def InFlightLaw (s : State) : Prop :=
  (∀ key slot, s.cmd = some (.add key slot) →
    s.occupied slot = false ∧ PhraseDefined s s.stagedBody.destination ∧ OptPhraseDefined s s.stagedBody.via ∧
      ∀ r, BodyWritten s r → r = s.stagedBody ∧ ServingCopiesHold s slot r) ∧
  (∀ key slot rank, s.cmd = some (.amend key slot rank) →
    (s.selects .destination = true → PhraseDefined s s.stagedBody.destination) ∧
      (s.selects .via = true → OptPhraseDefined s s.stagedBody.via)) ∧
  (∀ key slot, Updates s key slot →
    ∀ e ∈ s.dir.order, e.slot = slot →
      e.key = key ∧ ∀ r, BodyWritten s r → r.key = key ∧ ServingCopiesHold s slot r ∧
        (r.destination = e.destination ∨ PhraseDefined s r.destination) ∧
        (r.via = e.via ∨ OptPhraseDefined s r.via))

/-- A copier's slot query that has answered still names the record of its slot, if there is one (R134). -/
def QueryLaw (s : State) : Prop :=
  ∀ g n found, s.arb.held = some g → g.holder = .copier → g.slot = some n → g.progress = .queried found →
    ∀ e ∈ s.dir.order, e.slot = n → found = some e.key

/-- The law of the Phrase Table (R45) with what makes it hold: the bodies agree with the entries (R7), and the command
in flight has what its tests found. -/
def ReferenceLaw (s : State) : Prop := PhraseLaw s ∧ BodyLaw s ∧ InFlightLaw s ∧ QueryLaw s

end Sys2Proof.Machine
end

