-- ==== Sys2Proof/Certificates/Slice0/Obligations.lean ====
section
/-!
DEFINITION. The statements about the part, for the provers. Each cites the rules it rests on; OBLIGATIONS.json lists
them.
-/

open Sys2Proof Sys2Proof.Machine

/-! ## The queue and the resets -/

/-- A step runs the command at the front of the queue on the state with the queue's rest; with an empty queue the part
idles (the model's choice, log 1). -/
def Obligations.StepRunsFrontCommand : Prop :=
  (∀ (s : State) (c : Instr) (q : List Instr), s.pending = c :: q → step s = exec c { s with pending := q }) ∧
    ∀ s : State, s.pending = [] → step s = .next s

/-- The values after a full reset that the rules state (R19, R55, R70, R72, R98, R112, R133, R142, R148, R159, R170).
One value here no rule states: that no read's sample is held (`lowRead`), which is the model's choice (DESIGN CHOICE,
log 22). -/
def Obligations.ResetHoldsStatedValues : Prop :=
  let s := State.reset
  (s.port.width = .eight ∧ s.port.pendingNibble = none ∧ s.port.lowRead = none ∧ s.port.staging = Vector.replicate 32 0 ∧
    s.port.pointer = 0 ∧ s.port.direction = .increment ∧ s.busy = false ∧ s.port.lastResult = .ok ∧
    s.port.silence = 0 ∧ s.port.stale = false) ∧
  ((List.range 11).map s.params.value = [10, 2, 60, 0, 1, 0, 0, 100, 0, 255, 0]) ∧
  (s.store.state = .uninit ∧ s.store.primary = .A ∧ s.store.failedBank = none ∧ s.store.origin = none ∧
    s.store.rebuildCursor = 0 ∧ s.store.clearingCursor = 0) ∧
  (∀ b n, (s.copy b n).check = .good ∧ (s.copy b n).stuck = false ∧ (s.copy b n).contents = .unknown) ∧
  (s.dir.isOpen = false ∧ s.dir.order = [] ∧ s.liveCount = 0) ∧
  (s.arb.held = none ∧ s.arb.waiting.first = none ∧ s.sweep.cursor = 0 ∧ s.sweep.timer = none) ∧
  (∀ n, s.phrase n = { state := .free, text := [], count := 0 }) ∧
  (s.clock.seconds = 0 ∧ s.clock.minute = 0 ∧ s.clock.isSet = false ∧ s.clock.hold = false) ∧
  (s.retire.pass = none ∧ s.retire.pending = false) ∧
  (∀ v, (s.view v).state = .idle ∧ (s.view v).passNumber = 0 ∧ (s.view v).rowIndex = 0 ∧
    (s.view v).cursor = { time := 0, key := 0 } ∧ (s.view v).anchor = none ∧ (s.view v).skip = 0 ∧
    (s.view v).wrapped = .no ∧ (s.view v).searchEnded = false ∧ (s.view v).noticeDue = false ∧
    (s.view v).resume = none ∧ (s.view v).refreshTimer = none) ∧
  (∀ v, (s.view v).config =
    { platformFirst := 1, platformLast := 63, includeUnassigned := true, statuses := 0xF, offset := 0, rowCount := 8,
      wrap := false, mode := .onePass, refresh := 10, takeLimit := 10 }) ∧
  (s.composer.work = .free ∧ s.composer.lastServed = 3) ∧
  (∀ n, (s.link n).state = .idle ∧ (s.link n).slot = none ∧ (s.link n).parked = none ∧
    (s.link n).takeTimer = none ∧ (s.link n).holdTimer = 0) ∧
  (s.flags = 0 ∧ s.events.attention = 0xFFF ∧ s.events.fault = 0x090 ∧ s.events.firstFatal = none ∧
    s.events.firstError = none ∧ s.attn = false ∧ s.faultLine = false)

/-- Power-on, RESET_N low, RESET_N high again and the link-combination reset each give a full reset of every block
(R110, R133, R161). Two things here are the model's own (DESIGN CHOICES): the queue and the lines from outside are
kept and the data lines released (log 10), and a read whose strobe is low at the reset loses its sample (log 22).
While RESET_N is low the part takes no strobe and no event changes it: only the resets and the ADVANCE lines act, and
of a line only its level (R161; that no other event acts is the model's reading, log 11). -/
def Obligations.ResetsAreFullAndHoldThePart : Prop :=
  (∀ s : State,
     (∃ t, exec .powerOn s = .next t ∧ FullResetOf s t ∧ t.inReset = s.inReset) ∧
     (∃ t, exec .resetN s = .next t ∧ FullResetOf s t ∧ t.inReset = true) ∧
     (s.inReset = true → ∃ t, exec .resetNRelease s = .next t ∧ FullResetOf s t ∧ t.inReset = false) ∧
     (s.inReset = false → s.params.resetLinks ≠ 0 →
       (∀ n : Fin 4, s.params.resetLinks.getLsbD n = true → (s.link n).holdTimer = 3) →
       ∃ t, exec .linkCombinationReset s = .next t ∧ FullResetOf s t ∧ t.inReset = false)) ∧
  (∀ s : State, s.inReset = true →
     (∀ i, actsInReset i = false → exec i s = .next s) ∧
     (∀ n : Fin 4, exec (.advanceRise n) s = .next (s.setLink n { s.link n with line := true })) ∧
     (∀ n : Fin 4, exec (.advanceRelease n) s = .next (s.setLink n { s.link n with line := false })))

/-- RESTART resets the port, the views, the links and the event flags, and keeps the rest (R98, R111, R157). A
composition in flight is abandoned: a request it waits with is dropped, a grant it holds runs on to its end, and the
other requests and the disturbances that wait for a grant's end stay (R92). -/
def Obligations.RestartKeepsTheRecords : Prop :=
  ∀ s : State, CommandReady 0x3F s →
    ∃ t, exec .restart s = .next t ∧
      t.port = { s.port with
        width := .eight, pendingNibble := none, staging := Vector.replicate 32 0, pointer := 0, direction := .increment,
        lastResult := .ok, silence := 0, stale := false, driven := .released } ∧
      (∀ v, t.view v = { s.view v with state := .idle, refreshTimer := none, resume := none }) ∧
      (∀ n, t.link n =
        { s.link n with state := .idle, slot := none, parked := none, frame := [], takeTimer := none }) ∧
      t.events = { s.events with sticky := 0, firstFatal := none, firstError := none } ∧
      (∀ v, ¬ ComposingFor v t) ∧ t.composer.lastServed = s.composer.lastServed ∧
      t.arb = { s.arb with waiting := { s.arb.waiting with composer := t.arb.waiting.composer } } ∧
      ((∀ v e, s.composer.work ≠ .candidate v e) → t.arb.waiting.composer = s.arb.waiting.composer) ∧
      (∀ v e, s.composer.work = .candidate v e →
        (s.grantOf .composer = none → t.arb.waiting.composer = false ∧ t.composer.work = .free) ∧
        (s.grantOf .composer ≠ none →
          t.arb.waiting.composer = s.arb.waiting.composer ∧ t.composer.work = .draining)) ∧
      ((∀ v e, s.composer.work ≠ .candidate v e) → s.composer.work ≠ .draining → t.composer.work = .free) ∧
      (s.composer.work = .draining → t.composer.work = .draining) ∧
      t.cmd = none ∧ t.dir = s.dir ∧ t.mem = s.mem ∧ t.store = s.store ∧ t.sweep = s.sweep ∧ t.phrases = s.phrases ∧
      t.clock = s.clock ∧ t.retire = s.retire ∧ t.pending = s.pending ∧ t.inReset = s.inReset

/-! ## Control Port -/

/-- POINTER, WIDTH 8 and WIDTH 4 act on the port alone, without BUSY and without a result code (R154). An unassigned
byte completes at once with BAD_COMMAND and touches no staging byte (R155, R171). While BUSY every command write is
refused: the byte is dropped, OVERRUN is raised, and nothing else changes but the strobe's own marks (R155). -/
def Obligations.CommandWritesFollowBusy : Prop :=
  ((∀ (bits : BitVec 7) (s : State), CommandReady (pointerByte bits) s →
     exec (.pointer bits) s = .next (s.onlyPort { portTaken s.port with
       pointer := BitVec.ofNat 5 bits.toNat, direction := if bits.getLsbD 6 then .decrement else .increment })) ∧
   (∀ s : State, CommandReady 0x40 s → exec .width8 s = .next (s.onlyPort { portTaken s.port with width := .eight })) ∧
   (∀ s : State, CommandReady 0x41 s → exec .width4 s = .next (s.onlyPort { portTaken s.port with width := .four }))) ∧
  (∀ (b : Byte) (s : State), (Instr.badCommand b).wellFormed = true → CommandReady b s →
     exec (.badCommand b) s = .next (s.onlyPort { portTaken s.port with lastResult := .badCommand })) ∧
  (∀ (i : Instr) (b : Byte) (s : State), commandByteOf i = some b → WriteReady false b s → s.cmd ≠ none →
     exec i s = .next (s.overrun (portTaken s.port)))

/-- Staging transfers: with BUSY clear a write and a read move the pointer one place; with BUSY set both are refused
with OVERRUN, the read giving 0x00 (R153). A status read returns the status byte and changes nothing: bit 7 BUSY, bit 6
ATTN, bits 5 to 0 the last result code (R151, R152, R171). The reads are those of width 8; R149's pairs are stated
apart. A read's two edges may be taken by steps of their own (the model's operand for R152 and R153, log 3): the fall
samples the byte and BUSY and drives the byte; the rise settles the read by that sample, so that a staging read whose
sample saw BUSY raises OVERRUN at the rise even when a completion has cleared BUSY in between; taken one after the other
they are the whole read. -/
def Obligations.StagingTransfersFollowBusy : Prop :=
  (∀ (b : Byte) (s : State), WriteReady true b s → s.cmd = none →
    exec (.stagingWrite b) s = .next (s.onlyPort { portTaken s.port with
      staging := s.port.staging.set s.port.pointer.toFin b, pointer := pointerMoved s.port })) ∧
  (∀ (b : Byte) (s : State), WriteReady true b s → s.cmd ≠ none →
    exec (.stagingWrite b) s = .next (s.overrun (portTaken s.port))) ∧
  (∀ s : State, s.inReset = false → s.port.lowRead = none → s.port.width = .eight →
    (s.cmd = none →
      exec .stagingRead s = .next (s.onlyPort { portTaken s.port with
        driven := .byte s.port.staging[s.port.pointer.toFin], pointer := pointerMoved s.port })) ∧
    (s.cmd ≠ none →
      exec .stagingRead s = .next (s.overrun { portTaken s.port with driven := .byte 0 })) ∧
    (∃ b : Byte, exec .statusRead s = .next (s.onlyPort { portTaken s.port with driven := .byte b }) ∧
      b.getLsbD 7 = s.busy ∧ b.getLsbD 6 = s.attn ∧ b.toNat % 64 = s.port.lastResult.number) ∧
    (let byte : Byte := if s.cmd = none then s.port.staging[s.port.pointer.toFin] else 0
     exec (.stagingRead .fall) s = .next (s.onlyPort { s.port with
       lowRead := some { sel := true, byte := byte, busy := s.busy }, driven := .byte byte })) ∧
    (∃ b : Byte, exec (.statusRead .fall) s = .next (s.onlyPort { s.port with
        lowRead := some { sel := false, byte := b, busy := s.busy }, driven := .byte b }) ∧
      b.getLsbD 7 = s.busy ∧ b.getLsbD 6 = s.attn ∧ b.toNat % 64 = s.port.lastResult.number) ∧
    (∃ m, exec (.stagingRead .fall) s = .next m ∧ exec (.stagingRead .rise) m = exec .stagingRead s) ∧
    (∃ m, exec (.statusRead .fall) s = .next m ∧ exec (.statusRead .rise) m = exec .statusRead s)) ∧
  (∀ (s : State) (byte : Byte), s.inReset = false →
    let ended : ControlPort := { portTaken s.port with lowRead := none, driven := .byte byte }
    (s.port.lowRead = some { sel := true, byte := byte, busy := false } →
      exec (.stagingRead .rise) s = .next (s.onlyPort { ended with pointer := pointerMoved s.port })) ∧
    (s.port.lowRead = some { sel := true, byte := byte, busy := true } →
      exec (.stagingRead .rise) s = .next (s.overrun ended)) ∧
    (∀ busy, s.port.lowRead = some { sel := false, byte := byte, busy := busy } →
      exec (.statusRead .rise) s = .next (s.onlyPort ended)))

/-- In width 4 a strobe with no nibble pending, or with levels other than the pending nibble's, becomes the pending
nibble: a write's high nibble, or the whole byte sampled for a read with its high nibble driven (R149, R150). The nibble
timer's expiry discards the pending nibble and takes nothing (R150). The second strobe of a read drives the low nibble
of the sample, and a staging read is settled by that sample: refused with OVERRUN when BUSY was set at it, else the
pointer moves (R149). -/
def Obligations.PendingNibbleIsTakenOrDiscarded : Prop :=
  (∀ (sel rw : Bool) (lines : Byte) (s : State), s.inReset = false → s.port.lowRead = none → s.port.width = .four →
     (∀ p, s.port.pendingNibble = some p → ¬ (p.sel = sel ∧ p.half.rw = rw)) →
     let sample := if sel then (if s.busy then 0 else s.port.staging[s.port.pointer.toFin]) else statusByte s
     exec (.firstNibble sel rw lines) s = .next (s.onlyPort (
       if rw then { s.port with
         pendingNibble := some { sel := sel, half := .read sample s.busy }, driven := .nibble (upperNibble sample) }
       else { s.port with
         pendingNibble := some { sel := sel, half := .write (upperNibble lines) }, driven := .released }))) ∧
  (∀ s : State, s.inReset = false →
     exec .nibbleTimeout s = .next (s.onlyPort { s.port with pendingNibble := none })) ∧
  (∀ (s : State) (sample : Byte), s.inReset = false → s.port.lowRead = none → s.port.width = .four →
      (∀ busy, s.port.pendingNibble = some { sel := false, half := .read sample busy } →
        exec .statusRead s = .next (s.onlyPort { portTaken s.port with driven := .nibble (lowerNibble sample) })) ∧
      (s.port.pendingNibble = some { sel := true, half := .read sample false } →
        exec .stagingRead s = .next (s.onlyPort { portTaken s.port with
          driven := .nibble (lowerNibble sample), pointer := pointerMoved s.port })) ∧
      (s.port.pendingNibble = some { sel := true, half := .read sample true } →
        exec .stagingRead s = .next (s.overrun { portTaken s.port with driven := .nibble (lowerNibble sample) })))

/-! ## Record commands -/

/-- KEEPALIVE completes OK at once, reading and writing no staging byte, and restarts the silence count; written while
a command is in flight it is refused with OVERRUN and has no effect (R41). -/
def Obligations.KeepaliveRestartsSilence : Prop :=
  (∀ s : State, CommandReady 0x1A s →
    exec .keepalive s = .next (s.onlyPort { portTaken s.port with lastResult := .ok, silence := 0, stale := false })) ∧
  (∀ s : State, WriteReady false 0x1A s → s.cmd ≠ none → exec .keepalive s = .next (s.overrun (portTaken s.port)))

/-- ADD's refusals, in the order of its tests (R20, R22, R23, R24, R27); and an ADD that passes them is in flight with
the staged key and the lowest free slot, and asks for that slot's grant (R11, R27, R118). -/
def Obligations.AddTestsThenAsksForTheLowestFreeSlot : Prop :=
  (∀ s : State, CommandReady 0x01 s →
      let ends (rc : ResultCode) := exec .add s = .next (s.onlyPort { portTaken s.port with lastResult := rc })
      let d := s.stagedBody.destination
      (s.serving = false → ends .notServing) ∧
      (s.serving = true → ¬ AddFieldsInRange s → ends .fieldRange) ∧
      (s.serving = true → AddFieldsInRange s →
        ((s.phrase d).state = .free → ends .unknownPhrase) ∧
        ((s.phrase d).state = .retiring → ends .phraseRetiring) ∧
        (PhraseDefined s d → ∀ v, s.stagedBody.via = some v →
          ((s.phrase v).state = .free → ends .unknownPhrase) ∧
          ((s.phrase v).state = .retiring → ends .phraseRetiring)) ∧
        (PhraseDefined s d → OptPhraseDefined s s.stagedBody.via → s.dir.isOpen = true →
          ((∃ e ∈ s.dir.order, e.key = s.stagedKey) → ends .duplicateKey) ∧
          ((∀ e ∈ s.dir.order, e.key ≠ s.stagedKey) → (∀ m < 256, ∃ e ∈ s.dir.order, e.slot = m) →
            ends .tableFull)))) ∧
  (∀ (s : State) (slot : Nat), CommandReady 0x01 s → s.serving = true → s.dir.isOpen = true → AddFieldsInRange s →
      PhraseDefined s s.stagedBody.destination → OptPhraseDefined s s.stagedBody.via →
      (∀ e ∈ s.dir.order, e.key ≠ s.stagedKey) →
      slot < 256 → (∀ e ∈ s.dir.order, e.slot ≠ slot) → (∀ m < slot, ∃ e ∈ s.dir.order, e.slot = m) →
      exec .add s = .next (s.commandAsks (.add s.stagedKey slot) (some slot) s.stagedKey))

/-- ADD's grant writes the body to every bank the store state calls for and makes the record live: the entry in its
place, its references taken, slot and rank in staging, result OK (R15, R28, R29, R125). The grant ends and the port goes
to the first request that waits (R118). Nothing else changes. -/
def Obligations.AddGrantMakesTheRecordLive : Prop :=
  ∀ (s : State) (key slot : Nat), GrantBegun .command (some slot) key s → s.cmd = some (.add key slot) →
    s.serving = true → s.dir.isOpen = true → WriteHolds s slot → slot < 256 →
    (∀ e ∈ s.dir.order, e.key ≠ s.stagedKey) → (∀ e ∈ s.dir.order, e.slot ≠ slot) →
    ∃ t, exec (.addGrant .whole) s = .next t ∧
      t.dir = { s.dir with order := insertEntry (entryOf s.stagedBody slot) s.dir.order } ∧
      WrittenTo s t slot s.stagedBody ∧ OtherCopiesKept s t (writtenBanks s slot) slot ∧
      t.phrases = (takeEntry (entryOf s.stagedBody slot) s).phrases ∧
      t.port = { s.port with
        staging := stagingOf (addBytes slot (t.dir.order.findIdx fun e => e.key == s.stagedKey)),
        lastResult := .ok, silence := 0, stale := false } ∧
      t.cmd = none ∧ t.events = s.events ∧ t.store = s.store ∧ SameElsewhere s t ∧ GrantEnded { s with cmd := none } t

/-- AMEND's refusals, in the order of its tests; and an AMEND that passes them is in flight with the key, slot and rank
of the record, and asks for its slot's grant (R23, R24, R31). -/
def Obligations.AmendTestsThenAsksForTheRecordsSlot : Prop :=
  (∀ s : State, CommandReady 0x02 s → s.serving = true →
    let ends (rc : ResultCode) := exec .amend s = .next (s.onlyPort { portTaken s.port with lastResult := rc })
    let d := s.stagedBody.destination
    ((s.place 15 = 0 ∨ ¬ AmendFieldsInRange s) → ends .fieldRange) ∧
    (s.place 15 ≠ 0 → AmendFieldsInRange s →
      (s.selects .destination = true → (s.phrase d).state = .free → ends .unknownPhrase) ∧
      (s.selects .destination = true → (s.phrase d).state = .retiring → ends .phraseRetiring) ∧
      ((s.selects .destination = true → PhraseDefined s d) →
        (∀ v, s.selects .via = true → s.stagedBody.via = some v →
          ((s.phrase v).state = .free → ends .unknownPhrase) ∧
          ((s.phrase v).state = .retiring → ends .phraseRetiring)) ∧
        ((s.selects .via = true → OptPhraseDefined s s.stagedBody.via) → s.dir.isOpen = true →
          ((∀ e ∈ s.dir.order, e.key ≠ s.stagedKey) → ends .unknownKey) ∧
          (∀ e, (s.dir.order.find? fun x => x.key == s.stagedKey) = some e → s.selects .status = true →
            e.status = .departed → ends .statusFinal))))) ∧
  (∀ (s : State) (e : Entry), CommandReady 0x02 s → s.serving = true → s.dir.isOpen = true → s.place 15 ≠ 0 →
    AmendFieldsInRange s →
    (s.selects .destination = true → PhraseDefined s s.stagedBody.destination) →
    (s.selects .via = true → OptPhraseDefined s s.stagedBody.via) →
    (s.dir.order.find? fun x => x.key == s.stagedKey) = some e →
    (s.selects .status = true → e.status ≠ .departed) →
    exec .amend s = .next (s.commandAsks
      (.amend e.key e.slot (s.dir.order.findIdx fun x => x.key == e.key)) (some e.slot) e.key))

/-- AMEND's grant on a GOOD primary copy writes the changed body to every bank the store state calls for and gives the
entry its new values and place; it moves the references and answers amendment count, slot and rank (R16, R32, R34). The
grant ends and the port goes to the first request that waits (R118). In the changed body each field that a bit of the
amend mask selects takes the staged value, carried becoming no with the scheduled time; each other field is kept; the
amendment count rises by one, 255 followed by 0 (R30, R173). That no claim of others comes between the read and the
write is the model's choice (DESIGN CHOICE, log 23). -/
def Obligations.AmendGrantChangesTheRecord : Prop :=
  (∀ (s : State) (key slot rank : Nat) (r : RecordBody) (old : Entry),
    GrantBegun .command (some slot) key s → s.cmd = some (.amend key slot rank) → s.serving = true →
    s.dir.isOpen = true → WriteHolds s slot → PrimaryHolds s slot r →
    (s.dir.order.find? fun x => x.key == key && x.slot == slot) = some old →
    let new : Entry := { entryOf (s.amended r) slot with key := key, slot := slot }
    ∃ t, exec (.amendGrant .whole) s = .next t ∧
      t.dir = { s.dir with
        order := insertEntry new (s.dir.order.filter fun x => !(x.key == key && x.slot == slot)) } ∧
      WrittenTo s t slot (s.amended r) ∧ OtherCopiesKept s t (writtenBanks s slot) slot ∧
      t.phrases = (moveReferences old new s).phrases ∧ t.events = (moveReferences old new s).events ∧
      t.port = { s.port with
        staging := stagingOf (amendBytes (s.amended r).amendments slot (t.dir.order.findIdx fun x => x.key == key)),
        lastResult := .ok, silence := 0, stale := false } ∧
      t.cmd = none ∧ t.store = s.store ∧ SameElsewhere s t ∧ GrantEnded { s with cmd := none } t) ∧
  (∀ (s : State) (r : RecordBody),
    let a := s.amended r
    let staged (bit : Nat) : Prop := s.placeBit 15 bit = true
    (staged 0 → a.scheduled = s.word 2 ∧ a.carried = false) ∧
    (¬ staged 0 → a.scheduled = r.scheduled ∧ a.carried = r.carried) ∧
    (staged 1 → a.expected = if s.placeBit 4 7 then some (s.word 4 - 32768) else none) ∧
    (¬ staged 1 → a.expected = r.expected) ∧
    (staged 2 → a.platform = if s.place 6 = 0 then none else some (s.place 6)) ∧
    (¬ staged 2 → a.platform = r.platform) ∧
    (staged 3 → statusCode a.status = s.place 7 % 4) ∧ (¬ staged 3 → a.status = r.status) ∧
    (staged 4 → a.held = s.placeBit 7 2) ∧ (¬ staged 4 → a.held = r.held) ∧
    (staged 5 → a.destination = s.place 8) ∧ (¬ staged 5 → a.destination = r.destination) ∧
    (staged 6 → a.via = if s.place 9 = 0 then none else some (s.place 9)) ∧ (¬ staged 6 → a.via = r.via) ∧
    (staged 7 → a.attributes.length = s.place 10 ∧
      ∀ i < s.place 10, a.attributes[i]? = some (s.place (11 + i))) ∧
    (¬ staged 7 → a.attributes = r.attributes) ∧
    a.amendments = (r.amendments + 1) % 256 ∧ a.key = r.key)

/-- RETIRE removes the record with the remove claim and no access to Record Memory (R17, R35). With its two claims
served apart (the model's operand for R13 and R35, log 4) the lookup leaves RETIRE in flight with the key, slot and
rank found (R42); the remove claim then removes the record, or ends UNKNOWN_KEY where it has left, or NOT_SERVING
where the Directory has closed; where no RETIRE is in flight it changes nothing. -/
def Obligations.RetireRemovesTheRecord : Prop :=
  (∀ (s : State) (e : Entry), CommandReady 0x03 s → s.serving = true → s.dir.isOpen = true →
    (s.dir.order.find? fun x => x.key == s.stagedKey) = some e →
    exec (.retire .whole) s = .next { s with
      dir := { s.dir with order := s.dir.order.filter fun x => !(x.key == e.key && x.slot == e.slot) }
      phrases := (releaseEntry e s).phrases
      events := (releaseEntry e s).events
      port := { portTaken s.port with lastResult := .ok, silence := 0, stale := false } } ∧
    exec (.retire .lookup) s = .next { s with
      port := portTaken s.port
      cmd := some (.retire e.key e.slot (s.dir.order.findIdx fun x => x.key == e.key)) }) ∧
  (∀ (s : State) (key slot rank : Nat), s.inReset = false → s.cmd = some (.retire key slot rank) →
    (∀ e, s.dir.isOpen = true → (s.dir.order.find? fun x => x.key == key && x.slot == slot) = some e →
      exec (.retire .remove) s = .next { s with
        dir := { s.dir with order := s.dir.order.filter fun x => !(x.key == e.key && x.slot == e.slot) }
        phrases := (releaseEntry e s).phrases
        events := (releaseEntry e s).events
        cmd := none
        port := { s.port with lastResult := .ok, silence := 0, stale := false } }) ∧
    (s.dir.isOpen = true → (∀ y ∈ s.dir.order, ¬ (y.key = key ∧ y.slot = slot)) →
      exec (.retire .remove) s = .next { s with cmd := none, port := { s.port with lastResult := .unknownKey } }) ∧
    (s.dir.isOpen = false →
      exec (.retire .remove) s = .next { s with cmd := none, port := { s.port with lastResult := .notServing } })) ∧
  (∀ s : State, (∀ key slot rank, s.cmd ≠ some (.retire key slot rank)) → exec (.retire .remove) s = .next s)

/-- FETCH, FETCH RANK and FIND NEXT that find a record are in flight with its key, slot and rank, and ask for its
slot's grant (R36 to R39). -/
def Obligations.FetchCommandsAskForTheRecordsSlot : Prop :=
  ∀ (s : State) (e : Entry), s.serving = true → s.dir.isOpen = true →
    let asks (how : Find) := s.commandAsks
      (.fetch how e.key e.slot (s.dir.order.findIdx fun x => x.key == e.key)) (some e.slot) e.key
    (CommandReady 0x04 s → (s.dir.order.find? fun x => x.key == s.stagedKey) = some e →
      exec .fetch s = .next (asks (.byKey s.stagedKey))) ∧
    (CommandReady 0x05 s → s.dir.order[s.word 18]? = some e → exec .fetchRank s = .next (asks (.byRank (s.word 18)))) ∧
    (CommandReady 0x06 s → s.word 2 ≤ 2879 →
      (s.dir.order.find? fun x => posBefore { time := s.word 2, key := s.word 0 } (entryPos x)) = some e →
      exec .findNext s = .next (asks (.after { time := s.word 2, key := s.word 0 })))

/-- A fetch command's grant on a GOOD primary copy of a record that is still live in its slot writes the record, its
slot and its rank to staging, and changes no record (R36, R40). -/
def Obligations.FetchGrantReturnsTheRecord : Prop :=
  ∀ (s : State) (how : Find) (key slot rank : Nat) (r : RecordBody) (e : Entry),
    GrantBegun .command (some slot) key s → s.cmd = some (.fetch how key slot rank) → s.serving = true →
    s.dir.isOpen = true → PrimaryHolds s slot r →
    (s.dir.order.find? fun x => x.key == key && x.slot == slot) = some e →
    ∃ t, exec (.fetchGrant .whole) s = .next t ∧
      t.port = { s.port with
        staging := stagingOf (recordBytes r slot (s.dir.order.findIdx fun x => x.key == key)), lastResult := .ok } ∧
      t.cmd = none ∧ t.dir = s.dir ∧ t.phrases = s.phrases ∧ t.events = s.events ∧ t.store = s.store ∧
      SameCopies s t ∧ SameElsewhere s t ∧ GrantEnded { s with cmd := none } t

/-- The commands' tests (R20, R21, R31, R35, R37 to R39, R47 to R50, R53, R74, R75, R96, R117): a command that fails one
ends with the result code its rule names, and nothing else changes (R22). ADD's and AMEND's tests are stated with them,
and those of the other commands with their effects. -/
def Obligations.RefusedCommandsChangeOnlyTheResult : Prop :=
  ∀ s : State,
    let ends (i : Instr) (rc : ResultCode) := exec i s = .next (s.onlyPort { portTaken s.port with lastResult := rc })
    (∀ (i : Instr) (b : Byte), i ∈ [.amend, .retire .whole, .retire .lookup, .fetch, .fetchRank, .findNext] →
      commandByteOf i = some b → CommandReady b s → s.serving = false → ends i .notServing) ∧
    (s.serving = true → s.dir.isOpen = true →
      (∀ (i : Instr) (b : Byte), i ∈ [.retire .whole, .retire .lookup, .fetch] → commandByteOf i = some b →
        CommandReady b s → (∀ e ∈ s.dir.order, e.key ≠ s.stagedKey) → ends i .unknownKey) ∧
      (CommandReady 0x05 s → s.dir.order.length ≤ s.word 18 → ends .fetchRank .noSuchRank) ∧
      (CommandReady 0x06 s → 2879 < s.word 2 → ends .findNext .fieldRange) ∧
      (CommandReady 0x06 s → s.word 2 ≤ 2879 →
        (∀ e ∈ s.dir.order, posBefore { time := s.word 2, key := s.word 0 } (entryPos e) = false) →
        ends .findNext .endOfOrder)) ∧
    (∀ (i : Instr) (b : Byte), i ∈ [.definePhrase, .retirePhrase, .readPhrase] → commandByteOf i = some b →
      CommandReady b s → s.place 0 = 0 ∨ 63 < s.place 0 → ends i .fieldRange) ∧
    (CommandReady 0x08 s → 1 ≤ s.place 0 → s.place 0 ≤ 63 →
      (s.place 4 = 0 ∨ 24 < s.place 4 ∨ (∃ c ∈ s.stagedText, c < 0x20 ∨ 0x7E < c) → ends .definePhrase .fieldRange) ∧
      (1 ≤ s.place 4 → s.place 4 ≤ 24 → (∀ c ∈ s.stagedText, 0x20 ≤ c ∧ c ≤ 0x7E) →
        (s.phrase (s.place 0)).state = .retiring → ends .definePhrase .phraseRetiring)) ∧
    (CommandReady 0x09 s → 1 ≤ s.place 0 → s.place 0 ≤ 63 → (s.phrase (s.place 0)).state = .free →
      ends .retirePhrase .unknownPhrase) ∧
    (∀ (i : Instr) (b : Byte), i ∈ [.configureView, .startView, .stopView, .shiftView, .readView] →
      commandByteOf i = some b → CommandReady b s → 3 < s.place 0 → ends i .fieldRange) ∧
    (CommandReady 0x10 s → s.place 0 ≤ 3 →
      (s.place 1 = 0 ∨ 63 < s.place 1 ∨ s.place 2 = 0 ∨ 63 < s.place 2 ∨ s.place 4 % 16 = 0 ∨ s.place 6 = 0 ∨
        16 < s.place 6 ∨ 2 < s.place 7 ∨ s.place 8 = 0 ∨ 60 < s.place 8 ∨ s.place 9 = 0) →
      ends .configureView .fieldRange) ∧
    (CommandReady 0x13 s → s.place 0 ≤ 3 → (1 < s.place 16 ∨ s.place 17 = 0 ∨ 16 < s.place 17) →
      ends .shiftView .fieldRange) ∧
    (CommandReady 0x22 s → (1 < s.place 0 ∨ 2 < s.place 2) → ends .checkTest .fieldRange) ∧
    (CommandReady 0x28 s → s.place 0 = 5 → 1 ≤ s.word 1 → s.word 1 ≤ 63 → s.word 1 ≠ s.params.noticePhrase →
      (s.phrase (s.word 1)).state = .free → ends .setParameter .unknownPhrase)

/-- A grant whose body access fails ends its command: NOT_SERVING when the store serves no records (R120) or enters
FAILED at ADD's or AMEND's write or at AMEND's or a fetch command's read (R25, R128); WITHDRAWN when no copy yields
the body, the record leaving (R26, R126); UNKNOWN_KEY when the record had left before. There FETCH RANK and FIND NEXT
make a new attempt instead, as they do, and FETCH ends UNKNOWN_KEY, when the re-check finds the key not live (R26,
R36). The find claim of a new attempt follows the grant's end in the same step, or, where the step stops there (the
model's operand for R13, log 4), in the row's next step, on what stands then. STORE_FAILED's key is that of the live
record in the slot, and absent where the record has left or an ADD's is not yet live (the model's reading of R168:
DEDUCED, log 9). -/
def Obligations.FailedGrantsEndTheirCommand : Prop :=
  (∀ (s : State) (x : Extent) (key slot n rank : Nat) (how : Find) (c : InFlight) (i : Instr),
     GrantBegun .command (some slot) key s → s.serving = false → s.cmd = some c →
     (c, i) ∈ [(.add n slot, .addGrant x), (.amend key slot rank, .amendGrant x),
       (.fetch how key slot rank, .fetchGrant x)] →
     ∃ t, exec i s = .next t ∧ EndedWith .notServing s t ∧ t.dir = s.dir ∧ t.store = s.store ∧
       t.phrases = s.phrases ∧ t.events = s.events ∧ SameCopies s t ∧ SameElsewhere s t ∧
       GrantEnded { s with cmd := none } t) ∧
  (∀ (s : State) (x : Extent) (key slot rank : Nat) (how : Find) (c : InFlight) (i : Instr),
     GrantBegun .command (some slot) key s → s.serving = true → s.dir.isOpen = true → s.cmd = some c →
     Unreadable s slot →
     (c, i) ∈ [(.amend key slot rank, .amendGrant x), (.fetch how key slot rank, .fetchGrant x)] →
     (∀ e, (s.dir.order.find? fun y => y.key == key && y.slot == slot) = some e →
       ∃ t, exec i s = .next t ∧ EndedWith .withdrawn s t ∧
         t.dir = { s.dir with order := s.dir.order.filter fun y => !(y.key == e.key && y.slot == e.slot) } ∧
         t.phrases = (releaseEntry e s).phrases ∧
         t.events.sticky = (releaseEntry e s).events.sticky ||| 0x004 ∧
         t.store = s.store ∧ SameCopies s t ∧ SameElsewhere s t ∧ GrantEnded { s with cmd := none } t) ∧
     ((∀ y ∈ s.dir.order, ¬ (y.key = key ∧ y.slot = slot)) → (∀ r, c ≠ .fetch (.byRank r) key slot rank) →
       (∀ p, c ≠ .fetch (.after p) key slot rank) →
       ∃ t, exec i s = .next t ∧ EndedWith .unknownKey s t ∧ t.dir = s.dir ∧ t.store = s.store ∧
         t.phrases = s.phrases ∧ t.events = s.events ∧ SameCopies s t ∧ SameElsewhere s t ∧
         GrantEnded { s with cmd := none } t)) ∧
  (∀ (s : State) (x : Extent) (key slot rank : Nat) (how : Find) (r : RecordBody),
     GrantBegun .command (some slot) key s → s.serving = true → s.dir.isOpen = true →
     s.cmd = some (.fetch how key slot rank) → (Unreadable s slot ∨ (x = .whole ∧ PrimaryHolds s slot r)) →
     (∀ y ∈ s.dir.order, ¬ (y.key = key ∧ y.slot = slot)) →
     let due : State := endGrant { s with cmd := some (.refetch how key slot) }
     (∀ k, how = .byKey k → exec (.fetchGrant x) s = .next (endGrant { s with
       cmd := none, port := { s.port with lastResult := .unknownKey } })) ∧
     (∀ (found : Option Entry) (rc : ResultCode), FindAnswers how s found rc →
       (x = .firstPart → exec (.fetchGrant x) s = .next due) ∧
       (x = .whole → ∃ t, exec (.fetchGrant x) s = .next t ∧ t = { due with cmd := t.cmd, port := t.port, arb := t.arb } ∧
         (∀ e, found = some e → t.port = s.port ∧
           t.cmd = some (.fetch how e.key e.slot (s.dir.order.findIdx fun y => y.key == e.key)) ∧
           t.arb = arbAfterRequest due.arb { holder := .command, slot := some e.slot, key := e.key, progress := .begun }) ∧
         (found = none → EndedWith rc s t ∧ t.arb = due.arb)))) ∧
  (∀ (s : State) (x : Extent) (key slot : Nat) (how : Find), s.inReset = false →
     s.cmd = some (.refetch how key slot) →
     let ends (rc : ResultCode) := exec (.fetchGrant x) s =
       .next { s with cmd := none, port := { s.port with lastResult := rc } }
     (s.dir.isOpen = false → ends .notServing) ∧
     (∀ (found : Option Entry) (rc : ResultCode), s.dir.isOpen = true → FindAnswers how s found rc →
       (∀ e, found = some e → exec (.fetchGrant x) s = .next { s with
         cmd := some (.fetch how e.key e.slot (s.dir.order.findIdx fun y => y.key == e.key))
         arb := arbAfterRequest s.arb { holder := .command, slot := some e.slot, key := e.key, progress := .begun } }) ∧
       (found = none → ends rc))) ∧
  (∀ (s : State) (x : Extent) (key slot n : Nat), GrantBegun .command (some slot) key s →
     s.store.state = .single ∨ s.store.state = .degraded ∨
       (s.store.state = .rebuilding ∧ s.store.rebuildCursor ≤ slot) →
     (s.copy s.store.primary slot).stuck = true → s.cmd = some (.add n slot) →
     ∃ t, exec (.addGrant x) s = .next t ∧ EndedWith .notServing s t ∧
       FailedFrom s t slot (keyIn slot s) (some s.store.primary) .command ∧
       t.copy s.store.primary slot = failedCopy (s.copy s.store.primary slot) ∧
       OtherCopiesKept s t [s.store.primary] slot) ∧
  (∀ (s : State) (x : Extent) (key slot rank : Nat) (r : RecordBody), GrantBegun .command (some slot) key s →
     s.store.state = .single ∨ s.store.state = .degraded ∨
       (s.store.state = .rebuilding ∧ s.store.rebuildCursor ≤ slot) →
     PrimaryHolds s slot r → (s.copy s.store.primary slot).stuck = true → s.cmd = some (.amend key slot rank) →
     ∃ t, exec (.amendGrant x) s = .next t ∧ EndedWith .notServing s t ∧
       FailedFrom s t slot (keyIn slot s) (some s.store.primary) .command ∧
       t.copy s.store.primary slot = failedCopy (s.copy s.store.primary slot) ∧
       OtherCopiesKept s t [s.store.primary] slot) ∧
  (∀ (s : State) (x : Extent) (key slot rank : Nat) (how : Find) (c : InFlight) (i : Instr),
     GrantBegun .command (some slot) key s →
     s.store.state = .single ∨ s.store.state = .degraded ∨ s.store.state = .rebuilding →
     (s.copy s.store.primary slot).check = .correctable → (s.copy s.store.primary slot).stuck = true →
     s.cmd = some c →
     (c, i) ∈ [(.amend key slot rank, .amendGrant x), (.fetch how key slot rank, .fetchGrant x)] →
     ∃ t, exec i s = .next t ∧ EndedWith .notServing s t ∧
       FailedFrom s t slot (keyIn slot s) (some s.store.primary) .command ∧
       t.copy s.store.primary slot = failedCopy (s.copy s.store.primary slot) ∧
       OtherCopiesKept s t [s.store.primary] slot)

/-! ## Phrase Table -/

/-- DEFINE PHRASE gives a FREE entry the text and count 0, and a DEFINED entry the text with its count kept (R44, R48).
RETIRE PHRASE frees a DEFINED phrase with count 0, makes one with references RETIRING, and leaves a RETIRING one; READ
PHRASE changes nothing. Both report the entry (R49, R50). That each is served in the step that accepts it is the model's
choice (DESIGN CHOICE, log 21). -/
def Obligations.PhraseCommandsDefineRetireAndReport : Prop :=
  (∀ (s : State) (n : Nat), CommandReady 0x08 s → s.place 0 = n → 1 ≤ n → n ≤ 63 → 1 ≤ s.place 4 → s.place 4 ≤ 24 →
     (∀ c ∈ s.stagedText, 0x20 ≤ c ∧ c ≤ 0x7E) → (s.phrase n).state ≠ .retiring →
     exec .definePhrase s = .next ((s.setPhrase n
       { state := .defined, text := s.stagedText.map byteOf,
         count := if (s.phrase n).state = .free then 0 else (s.phrase n).count }).onlyPort
       { portTaken s.port with lastResult := .ok })) ∧
  (∀ (s : State) (n : Nat), s.place 0 = n → 1 ≤ n → n ≤ 63 →
     (CommandReady 0x09 s → (s.phrase n).state ≠ .free →
       ∃ p : Phrase,
         (((s.phrase n).state = .defined ∧ (s.phrase n).count = 0) → p = { state := .free, text := [], count := 0 }) ∧
         (((s.phrase n).state = .defined ∧ (s.phrase n).count ≠ 0) → p = { s.phrase n with state := .retiring }) ∧
         ((s.phrase n).state = .retiring → p = s.phrase n) ∧
         exec .retirePhrase s = .next ((s.setPhrase n p).onlyPort
           (portAfter s.port .ok (some ([byteOf n, byteOf p.state.code] ++ twoBytes p.count)) false))) ∧
     (CommandReady 0x0A s →
       exec .readPhrase s = .next (s.onlyPort (portAfter s.port .ok
         (some ([byteOf n, byteOf (s.phrase n).state.code] ++ twoBytes (s.phrase n).count ++
           [byteOf (s.phrase n).text.length] ++ (s.phrase n).text)) false))))

/-- A take adds one reference; a release takes one away, and a RETIRING phrase that it brings to 0 becomes FREE with
PHRASE_FREED. No other phrase changes (R51, R52). The update claim takes for each field that changes before it
releases for it, and neither takes nor releases for one that stays: a DEFINED phrase gains its takes and loses its
releases, and a RETIRING phrase that no field takes becomes FREE when its releases bring it to 0 (R16, R51, R52). -/
def Obligations.ReferencesCountAndFree : Prop :=
  (∀ (s : State) (n : Nat), 1 ≤ n → n ≤ 63 →
      ((takePhrase n s).phrase n = { s.phrase n with count := (s.phrase n).count + 1 }) ∧
      ((s.phrase n).state = .defined →
        (releasePhrase n s).phrase n = { s.phrase n with count := (s.phrase n).count - 1 } ∧
          (releasePhrase n s).events = s.events) ∧
      ((s.phrase n).state = .retiring → 2 ≤ (s.phrase n).count →
        (releasePhrase n s).phrase n = { s.phrase n with count := (s.phrase n).count - 1 } ∧
          (releasePhrase n s).events = s.events) ∧
      ((s.phrase n).state = .retiring → (s.phrase n).count = 1 →
        (releasePhrase n s).phrase n = { state := .free, text := [], count := 0 } ∧
          (releasePhrase n s).events = { s.events with sticky := s.events.sticky ||| 0x800 }) ∧
      (∀ m, m ≠ n → (takePhrase n s).phrase m = s.phrase m ∧ (releasePhrase n s).phrase m = s.phrase m)) ∧
  (∀ (s : State) (old new : Entry),
    (old.destination = new.destination → old.via = new.via → moveReferences old new s = s) ∧
    (old.destination ≠ new.destination → old.via = new.via →
      moveReferences old new s = releasePhrase old.destination (takePhrase new.destination s)) ∧
    (old.destination = new.destination → old.via ≠ new.via →
      moveReferences old new s = releaseVia old.via (takeVia new.via s)) ∧
    (old.destination ≠ new.destination → old.via ≠ new.via →
      moveReferences old new s =
        releaseVia old.via (releasePhrase old.destination (takeVia new.via (takePhrase new.destination s))))) ∧
  (∀ (s : State) (old new : Entry) (n : Nat), 1 ≤ n → n ≤ 63 →
    let moves (a b : Entry) := (if a.destination ≠ b.destination ∧ a.destination = n then 1 else 0) +
      (if a.via ≠ b.via ∧ a.via = some n then 1 else 0)
    ((s.phrase n).state = .defined →
      (moveReferences old new s).phrase n =
        { s.phrase n with count := (s.phrase n).count + moves new old - moves old new }) ∧
    ((s.phrase n).state = .retiring → moves new old = 0 → moves old new < (s.phrase n).count →
      (moveReferences old new s).phrase n = { s.phrase n with count := (s.phrase n).count - moves old new }) ∧
    ((s.phrase n).state = .retiring → moves new old = 0 → 1 ≤ moves old new → (s.phrase n).count ≤ moves old new →
      (moveReferences old new s).phrase n = { state := .free, text := [], count := 0 } ∧
        (moveReferences old new s).events.sticky.getLsbD 11 = true))

/-! ## Views -/

/-- A view's filter: the platform in the range, which wraps when first is above last, or absent with include
unassigned; and the status in the set (R73). -/
def Obligations.FilterFollowsPlatformAndStatus : Prop :=
  ∀ (c : ViewConfig) (e : Entry), (∀ p, e.platform = some p → 1 ≤ p ∧ p ≤ 63) →
    (passesFilter c e = true ↔
      ((∃ p, e.platform = some p ∧
          ((c.platformFirst ≤ c.platformLast ∧ c.platformFirst ≤ p ∧ p ≤ c.platformLast) ∨
            (c.platformLast < c.platformFirst ∧ (c.platformFirst ≤ p ∨ p ≤ c.platformLast)))) ∨
        (e.platform = none ∧ c.includeUnassigned = true)) ∧
      c.statuses.getLsbD (statusCode e.status) = true)

/-- CONFIGURE VIEW on an IDLE or HALTED view replaces the ten fields of its configuration and nothing else, and is
refused with VIEW_BUSY on any other view (R75). SHIFT VIEW moves the offset by the step modulo 256 in either direction,
in every view state; READ VIEW changes nothing and reports the view and its link (R96, R97). -/
def Obligations.ViewConfigurationCommands : Prop :=
  (∀ (s : State) (v : Fin 4) (mode : ViewMode), CommandReady 0x10 s → s.place 0 = v.val →
     1 ≤ s.place 1 → s.place 1 ≤ 63 → 1 ≤ s.place 2 → s.place 2 ≤ 63 → s.place 4 % 16 ≠ 0 →
     1 ≤ s.place 6 → s.place 6 ≤ 16 → s.place 7 = mode.code → 1 ≤ s.place 8 → s.place 8 ≤ 60 → 1 ≤ s.place 9 →
     (((s.view v).state = .idle ∨ (s.view v).state = .halted) →
       exec .configureView s = .next ((s.setView v { s.view v with
         config := { platformFirst := s.place 1, platformLast := s.place 2, includeUnassigned := s.placeBit 3 0,
                     statuses := BitVec.ofNat 4 (s.place 4), offset := s.place 5, rowCount := s.place 6,
                     wrap := s.placeBit 3 1, mode := mode, refresh := s.place 8, takeLimit := s.place 9 } }).onlyPort
         { portTaken s.port with lastResult := .ok })) ∧
     (¬ ((s.view v).state = .idle ∨ (s.view v).state = .halted) →
       exec .configureView s = .next (s.onlyPort { portTaken s.port with lastResult := .viewBusy }))) ∧
  (∀ (s : State) (v : Fin 4), s.place 0 = v.val →
     (CommandReady 0x13 s → s.place 16 ≤ 1 → 1 ≤ s.place 17 → s.place 17 ≤ 16 →
       ∃ o : Nat, o < 256 ∧
         (s.place 16 = 0 → o = ((s.view v).config.offset + s.place 17) % 256) ∧
         (s.place 16 = 1 → (s.view v).config.offset < 256 → (o + s.place 17) % 256 = (s.view v).config.offset) ∧
         exec .shiftView s = .next
           ((s.setView v { s.view v with config := { (s.view v).config with offset := o } }).onlyPort
             (portAfter s.port .ok (some ([0, 0, 0, 0, 0] ++ [byteOf o])) false))) ∧
     (CommandReady 0x14 s →
       exec .readView s = .next (s.onlyPort (portAfter s.port .ok (some (viewBytes v.val (s.view v) (s.link v))) false))))

/-- A pass starts with the next pass number, row index 0, the cursor at the front, the skip taken modulo the number of
passing records, and the notice due by the stale condition, P4 and P5; other views stay (R78). A refresh timer that
stands at its last second, or that a tick has brought to 0, expires: a new pass starts (R78, R89). That the expiry is a
row of its own, which takes one view's share of a second tick and moves nothing else, is the model's choice (DESIGN
CHOICE, log 7). -/
def Obligations.PassStartSetsThePassState : Prop :=
  (∀ (s : State) (v : Fin 4),
     let w := s.view v
     let n := s.entries.countP (passesFilter w.config)
     startPass v s = s.setView v { w with
       passNumber := (w.passNumber + 1) % 256
       rowIndex := 0
       cursor := { time := 0, key := 0 }
       anchor := none
       wrapped := .no
       searchEnded := false
       skip := if n = 0 then 0 else w.config.offset % n
       noticeDue := s.port.stale && decide (s.params.staleAction = 1) && decide (s.params.noticePhrase ≠ 0)
       state := .running
       resume := none
       refreshTimer := none }) ∧
  (∀ (s : State) (v : Fin 4) (k : Nat), s.inReset = false → (s.view v).state = .resting →
     (s.view v).refreshTimer = some k → k ≤ 1 → exec (.refreshExpiry v) s = .next (startPass v s))

/-- START VIEW discards the parked row, abandons the view's composition, returns a LOST link to IDLE and starts a
pass, from any view state; it outputs the new pass number and touches no other view or link (R94). STOP VIEW makes a
view IDLE from any state but HALTED, its parked row discarded and its composition abandoned; a HALTED view stays HALTED,
and nothing changes (R95). An abandoned composition that waits for a grant drops its request and leaves the composer
free, and one that holds a grant leaves it to run to its end (R92). A view number above 3 ends either with
FIELD_RANGE. -/
def Obligations.StartAndStopViewCommands : Prop :=
  (∀ (s : State) (v : Fin 4), CommandReady 0x11 s → s.place 0 = v.val →
    ∃ t, exec .startView s = .next t ∧
      t.view v = (startPass v s).view v ∧ (∀ u, u ≠ v → t.view u = s.view u) ∧
      t.link v = (if (s.view v).state = .halted then { s.link v with parked := none, state := .idle, slot := none }
        else { s.link v with parked := none }) ∧
      (∀ u, u ≠ v → t.link u = s.link u) ∧ ¬ ComposingFor v t ∧ (∀ u, u ≠ v → (ComposingFor u t ↔ ComposingFor u s)) ∧
      AbandonedFor v s t ∧
      t.port = portAfter s.port .ok (some (List.replicate 11 0 ++ [byteOf (t.view v).passNumber])) false ∧
      t.cmd = none ∧ t.dir = s.dir ∧ t.mem = s.mem ∧ t.store = s.store ∧ t.arb.held = s.arb.held ∧ t.sweep = s.sweep ∧
      t.phrases = s.phrases ∧ t.clock = s.clock ∧ t.retire = s.retire ∧ t.events = s.events ∧
      t.composer.lastServed = s.composer.lastServed ∧ t.pending = s.pending ∧ t.inReset = s.inReset) ∧
  (∀ (s : State) (v : Fin 4), CommandReady 0x12 s → s.place 0 = v.val →
    ((s.view v).state = .halted → exec .stopView s = .next (s.onlyPort { portTaken s.port with lastResult := .ok })) ∧
    ((s.view v).state ≠ .halted →
      ∃ t, exec .stopView s = .next t ∧
        t.view v = { s.view v with state := .idle, refreshTimer := none, resume := none } ∧
        (∀ u, u ≠ v → t.view u = s.view u) ∧ t.link v = { s.link v with parked := none } ∧
        (∀ u, u ≠ v → t.link u = s.link u) ∧ ¬ ComposingFor v t ∧
        (∀ u, u ≠ v → (ComposingFor u t ↔ ComposingFor u s)) ∧ AbandonedFor v s t ∧
        t.port = { portTaken s.port with lastResult := .ok } ∧
        t.cmd = none ∧ t.dir = s.dir ∧ t.mem = s.mem ∧ t.store = s.store ∧ t.arb.held = s.arb.held ∧
        t.sweep = s.sweep ∧ t.phrases = s.phrases ∧ t.clock = s.clock ∧ t.retire = s.retire ∧ t.events = s.events ∧
        t.pending = s.pending ∧ t.inReset = s.inReset)) ∧
  (∀ s : State, 3 < s.place 0 →
    (CommandReady 0x11 s →
      exec .startView s = .next (s.onlyPort { portTaken s.port with lastResult := .fieldRange })) ∧
    (CommandReady 0x12 s →
      exec .stopView s = .next (s.onlyPort { portTaken s.port with lastResult := .fieldRange })))

/-- The free composer takes the first ready view after the one it last served, while the day-change hold is clear
(R79). The candidate that its first claim finds is waited for with a request for its slot's grant (R80); a view whose
search has ended gets a BLANK row, which goes to an empty slot and is sent from there (R85, R87). A step that stops at
its first part (the model's operand for R13 and R79, log 4) takes the view and does nothing more: other claims may be
served before the composition's first, a NEW DAY's among them, and its first access is the row's next step, also where
the hold has come to stand (R91). -/
def Obligations.CompositionStartServesTheNextReadyView : Prop :=
  (∀ (s : State) (v : Fin 4), s.inReset = false → NextToCompose v s →
    let taken : State := { s with composer := { work := .taken v, lastServed := v } }
    exec (.compositionStart .firstPart) s = .next taken ∧
      exec (.compositionStart .whole) s = exec (.compositionStart .whole) taken) ∧
  (∀ (s : State) (v : Fin 4) (x : Extent), s.inReset = false → s.composer.work = .taken v →
    (s.view v).noticeDue = false → (s.view v).searchEnded = false →
    exec (.compositionStart x) s =
      exec (.compositionStart x) { s with composer := { s.composer with work := .searching v } }) ∧
  (∀ (s : State) (v : Fin 4), s.inReset = false → NextToCompose v s → (s.view v).noticeDue = false →
    (∀ e : Entry, (s.view v).searchEnded = false → (s.view v).skip = 0 → (s.view v).wrapped = .no →
      (s.entries.find? fun x => posBefore (s.view v).cursor (entryPos x) && passesFilter (s.view v).config x) = some e →
      exec (.compositionStart .whole) s = .next { s with
        composer := { work := .candidate v e, lastServed := v }
        arb := arbAfterRequest s.arb { holder := .composer, slot := some e.slot, key := e.key, progress := .begun } }) ∧
    ((s.view v).searchEnded = true → (s.link v).slot = none →
      ∃ t row, exec (.compositionStart .whole) s = .next t ∧ row.view = v ∧ row.index = (s.view v).rowIndex ∧
        row.passNumber = (s.view v).passNumber ∧ row.content = .blank ∧ row.stale = s.rowsStale ∧
        t.link v = { s.link v with state := .sending, slot := some row, frame := rowFrame row, takeTimer := none } ∧
        (t.view v).rowIndex = (s.view v).rowIndex + 1 ∧ t.composer = { work := .free, lastServed := v } ∧
        (∀ u, u ≠ v → t.link u = s.link u ∧ t.view u = s.view u) ∧ t.arb = s.arb ∧ t.dir = s.dir ∧ t.mem = s.mem))

/-- The composer's grant on a GOOD copy whose entry the re-check finds unchanged places a RECORD row in the empty slot
with the body and the texts read, and moves the cursor (R81, R83, R87). -/
def Obligations.ComposerGrantPlacesARecordRow : Prop :=
  ∀ (s : State) (v : Fin 4) (e : Entry) (r : RecordBody), GrantBegun .composer (some e.slot) e.key s →
    s.composer.work = .candidate v e → s.serving = true → PrimaryHolds s e.slot r →
    (s.entries.find? fun x => x.key == e.key) = some e → (s.link v).slot = none →
    ∃ t row, exec (.composerGrant .whole) s = .next t ∧
      row.view = v ∧ row.index = (s.view v).rowIndex ∧ row.passNumber = (s.view v).passNumber ∧
      row.stale = s.rowsStale ∧
      row.content = .record
        { body := r, destinationText := (s.phrase e.destination).text, viaText := e.via.map fun n => (s.phrase n).text } ∧
      t.link v = { s.link v with state := .sending, slot := some row, frame := rowFrame row, takeTimer := none } ∧
      (t.view v).cursor = { time := e.effective, key := e.key } ∧
      (t.view v).anchor = some ((s.view v).anchor.getD { time := e.effective, key := e.key }) ∧
      (t.view v).rowIndex = (s.view v).rowIndex + 1 ∧ t.composer.work = .free ∧
      (∀ u, u ≠ v → t.link u = s.link u ∧ t.view u = s.view u) ∧
      t.dir = s.dir ∧ SameCopies s t ∧ t.store = s.store ∧ t.phrases = s.phrases ∧ t.events = s.events ∧
      t.cmd = s.cmd ∧ t.port = s.port ∧ t.clock = s.clock ∧ t.retire = s.retire ∧ GrantEnded s t

/-- Each next after claim of a search (R80), one to a step (the model's operand for R79, log 4): an entry at or after
the wrap limit, or end of order with no wrap left, ends the search with a BLANK row; an entry with skip remaining is
skipped; an entry with none is the candidate, and its slot's grant is asked for; end of order with a wrap left goes on
from the front with the pass anchor as the wrap limit. A re-check that fails, a record withdrawn or gone, and a store
that fails or serves no records each end the grant without a row, and the search begins again from the cursor (R81,
R82). STORE_FAILED's key is that of the live record in the slot, if the record is still there (the model's reading of
R168: DEDUCED, log 9). -/
def Obligations.SearchClaimsWalkTheOrder : Prop :=
  (∀ (s : State) (v : Fin 4), s.inReset = false → s.composer.work = .searching v →
    let w := s.view v
    let found := s.entries.find? fun x => posBefore w.cursor (entryPos x) && passesFilter w.config x
    let beyond (e : Entry) := ∃ limit, w.wrapped = .yes (some limit) ∧
      ¬ (e.effective < limit.time ∨ (e.effective = limit.time ∧ e.key < limit.key))
    (∀ e, found = some e → beyond e →
      exec (.compositionStart .firstPart) s = .next (placeRow v .blank (s.setView v { w with searchEnded := true }))) ∧
    (∀ e, found = some e → ¬ beyond e → 1 ≤ w.skip →
      exec (.compositionStart .firstPart) s = .next
        (s.setView v { w with skip := w.skip - 1, cursor := { time := e.effective, key := e.key } })) ∧
    (∀ e, found = some e → ¬ beyond e → w.skip = 0 →
      exec (.compositionStart .firstPart) s = .next { s with
        composer := { s.composer with work := .candidate v e }
        arb := arbAfterRequest s.arb { holder := .composer, slot := some e.slot, key := e.key, progress := .begun } }) ∧
    (found = none → w.config.wrap = true → w.wrapped = .no →
      exec (.compositionStart .firstPart) s = .next
        (s.setView v { w with skip := 0, wrapped := .yes w.anchor, cursor := { time := 0, key := 0 } })) ∧
    (found = none → (w.config.wrap = false ∨ w.wrapped ≠ .no) →
      exec (.compositionStart .firstPart) s = .next
        (placeRow v .blank (s.setView v { w with skip := 0, searchEnded := true })))) ∧
  (∀ (s : State) (v : Fin 4) (e : Entry), GrantBegun .composer (some e.slot) e.key s →
    s.composer.work = .candidate v e →
    let searchesAgain (t : State) :=
      exec (.composerGrant .whole) s = exec (.compositionStart .whole) (State.setComposing (.searching v) (endGrant t))
    (∀ r, s.serving = true → PrimaryHolds s e.slot r →
      (∀ x, (s.entries.find? fun x => x.key == e.key) = some x →
        ¬ (x.slot = e.slot ∧ x.effective = e.effective ∧ x.platform = e.platform ∧ x.status = e.status)) →
      searchesAgain s) ∧
    (s.serving = false → searchesAgain s) ∧
    (s.serving = true → Unreadable s e.slot → (∀ x ∈ s.entries, ¬ (x.key = e.key ∧ x.slot = e.slot)) →
      searchesAgain s) ∧
    (∀ x, s.serving = true → s.dir.isOpen = true → Unreadable s e.slot →
      (s.dir.order.find? fun y => y.key == e.key && y.slot == e.slot) = some x →
      ∃ t, searchesAgain t ∧ t = { s with dir := t.dir, phrases := t.phrases, events := t.events } ∧
        t.dir = { s.dir with order := s.dir.order.filter fun y => !(y.key == x.key && y.slot == x.slot) } ∧
        t.phrases = (releaseEntry x s).phrases ∧
        t.events.firstFatal = s.events.firstFatal.or
          (some (captureAt .withdrawn e.slot (some e.key) (some s.store.primary) .compose s))) ∧
    (s.store.state = .single ∨ s.store.state = .degraded ∨ s.store.state = .rebuilding →
      (s.copy s.store.primary e.slot).check = .correctable → (s.copy s.store.primary e.slot).stuck = true →
      ∃ t, searchesAgain t ∧ FailedFrom s t e.slot (keyIn e.slot s) (some s.store.primary) .compose ∧
        t.copy s.store.primary e.slot = failedCopy (s.copy s.store.primary e.slot) ∧
        OtherCopiesKept s t [s.store.primary] e.slot ∧ t.arb = (s.withRequests false false).arb ∧
        t.sweep = { s.sweep with timer := none } ∧
        t = { s with
          mem := t.mem, store := t.store, dir := t.dir, phrases := t.phrases, events := t.events, arb := t.arb,
          sweep := t.sweep }))

/-- A row is placed in an empty slot, where its link begins to send it, or in the parked row when the slot is full; the
composer is free and the row index rises by one. The view's next state follows from its mode, from whether the pass is
complete and from where the row went (R87). A view whose notice is due gets a NOTICE row with the notice phrase's text
when P4 is 1 and P5 names a phrase, and otherwise searches as for any other row (R84); notice due is no from that read
on (the model's choice where a search follows, log 20). A step that stops at its first part stops after the read that
gives no notice, the first claim being another access (the model's operand, log 4). -/
def Obligations.PlacementFollowsSlotAndMode : Prop :=
  (∀ (s : State) (v : Fin 4) (content : RowContent),
    let t := placeRow v content s
    let row : Row :=
      { view := v, index := (s.view v).rowIndex, passNumber := (s.view v).passNumber,
        stale := s.port.stale && decide (s.params.staleAction = 1), content := content }
    let w : View := { s.view v with rowIndex := (s.view v).rowIndex + 1 }
    let complete := w.rowIndex = w.config.rowCount
    ((s.link v).slot = none →
      t.link v = { s.link v with state := .sending, slot := some row, frame := rowFrame row, takeTimer := none } ∧
      (w.config.mode = .onePass → ¬ complete → t.view v = { w with state := .running, resume := none }) ∧
      (w.config.mode = .onePass → complete → t.view v = { w with state := .idle, resume := none }) ∧
      (w.config.mode = .cyclic → ¬ complete → t.view v = { w with state := .running, resume := none }) ∧
      (w.config.mode = .cyclic → complete →
        t.view v = { w with state := .resting, resume := none, refreshTimer := some w.config.refresh }) ∧
      (w.config.mode = .stepped → t.view v = { w with state := .stepWait, resume := none })) ∧
    ((s.link v).slot ≠ none →
      t.link v = { s.link v with parked := some row } ∧
      (w.config.mode = .onePass → ¬ complete → t.view v = { w with state := .parked, resume := some .goOn }) ∧
      (w.config.mode = .onePass → complete → t.view v = { w with state := .parked, resume := some .finish }) ∧
      (w.config.mode = .cyclic → ¬ complete → t.view v = { w with state := .parked, resume := some .goOn }) ∧
      (w.config.mode = .cyclic → complete → t.view v = { w with state := .parked, resume := some .rest }) ∧
      (w.config.mode = .stepped → t.view v = { w with state := .parked, resume := some .step })) ∧
    (∀ u, u ≠ v → t.link u = s.link u ∧ t.view u = s.view u) ∧
    t = { s with views := t.views, links := t.links, composer := { s.composer with work := .free } }) ∧
  (∀ (s : State) (v : Fin 4) (x : Extent), s.inReset = false →
    s.composer.work = .taken v ∨ (x = .whole ∧ NextToCompose v s) →
    let served := if s.composer.work = .free then v else s.composer.lastServed
    let taken : State := { s with composer := { work := .taken v, lastServed := served } }
    let noticeGone : State := s.setView v { s.view v with noticeDue := false }
    ((s.view v).noticeDue = false → (s.view v).searchEnded = true →
      exec (.compositionStart x) s = .next (placeRow v .blank taken)) ∧
    ((s.view v).noticeDue = true → s.params.staleAction = 1 → s.params.noticePhrase ≠ 0 →
      exec (.compositionStart x) s = .next
        (placeRow v (.notice (s.phrase s.params.noticePhrase).text)
          (taken.setView v { s.view v with noticeDue := false }))) ∧
    ((s.view v).noticeDue = true → (s.params.staleAction ≠ 1 ∨ s.params.noticePhrase = 0) →
      (x = .whole → exec (.compositionStart x) s = exec (.compositionStart x) noticeGone) ∧
      (x = .firstPart → exec (.compositionStart x) s = .next noticeGone)))

/-! ## Clock and retirement -/

/-- SET CLOCK gives the clock the minute, zeroes the seconds, sets the clock-set flag and requests a pass, which starts
when the Retirement Unit is IDLE with the hold clear and is left pending otherwise (R59, R60). NEW DAY is refused with
the clock unset, then before minute 1440; accepted, the minute falls by 1440, the hold is set, a pass in flight ends and
a pass is pending (R65). -/
def Obligations.ClockCommandsMoveTheMinute : Prop :=
  (∀ s : State, CommandReady 0x18 s →
    (s.word 0 ≤ 2879 →
      exec .setClock s = .next { s with
        port := { portTaken s.port with lastResult := .ok, silence := 0, stale := false }
        clock := { s.clock with minute := s.word 0, seconds := 0, isSet := true }
        retire := if s.retire.pass = none ∧ s.clock.hold = false then
            { s.retire with pass := some { time := 0, key := 0 } }
          else { s.retire with pending := true } }) ∧
    (2879 < s.word 0 → exec .setClock s = .next (s.onlyPort { portTaken s.port with lastResult := .fieldRange }))) ∧
  (∀ s : State, CommandReady 0x19 s →
    (s.clock.isSet = false → exec .newDay s = .next (s.onlyPort { portTaken s.port with lastResult := .clockUnset })) ∧
    (s.clock.isSet = true → s.clock.minute < 1440 →
      exec .newDay s = .next (s.onlyPort { portTaken s.port with lastResult := .tooEarly })) ∧
    (s.clock.isSet = true → 1440 ≤ s.clock.minute →
      exec .newDay s = .next { s with
        port := portTaken s.port
        clock := { s.clock with minute := s.clock.minute - 1440, hold := true }
        retire := { pass := none, pending := true }
        cmd := some (.newDay
          { minute := s.clock.minute - 1440, visit := { time := 0, key := 0 }, rebase := none, retired := 0,
            rebased := 0, clamped := 0, withdrawn := 0 }) }))

/-- A visit of NEW DAY removes an entry below 1440, selects a later one for its rebase grant, and at end of order
completes NEW DAY with its counts, clears the hold and starts the pending pass (R66, R68, R69). -/
def Obligations.NewDayVisitsInOrder : Prop :=
  ∀ (s : State) (d : NewDay), s.inReset = false → s.cmd = some (.newDay d) → d.rebase = none →
    let found := s.entries.find? fun x => posBefore d.visit (entryPos x)
    (∀ e, found = some e → e.effective < 1440 →
      exec .newDayVisit s = .next { s with
        dir := { s.dir with order := s.dir.order.filter fun x => !(x.key == e.key && x.slot == e.slot) }
        phrases := (releaseEntry e s).phrases
        events := (releaseEntry e s).events
        cmd := some (.newDay { d with visit := { time := e.effective, key := e.key }, retired := d.retired + 1 }) }) ∧
    (∀ e, found = some e → 1440 ≤ e.effective →
      exec .newDayVisit s = .next { s with
        cmd := some (.newDay
          { d with visit := { time := e.effective, key := e.key }, rebase := some (e.key, e.slot) })
        arb := arbAfterRequest s.arb { holder := .command, slot := some e.slot, key := e.key, progress := .begun } }) ∧
    (found = none →
      exec .newDayVisit s = .next { s with
        cmd := none
        clock := { s.clock with hold := false }
        retire := { pass := if s.retire.pending then some { time := 0, key := 0 } else none, pending := false }
        port := { s.port with
          staging := stagingOf (twoBytes d.minute ++ twoBytes d.retired ++ twoBytes d.rebased ++ twoBytes d.clamped ++
            twoBytes d.withdrawn),
          lastResult := .ok, silence := 0, stale := false } })

/-- NEW DAY's rebase grant moves the record's times back by one day, clamping a scheduled time of the old day to 0
with carried set, writes the body and gives the entry its new place (R67). The rebase completes whenever the read
gives a body, the write stores it and the record is still live: from a GOOD copy, from one corrected or repaired, with
one bank lost at the read or at the write, and with a rebuild ended at the write. NEW DAY goes on to its next visit,
with nothing rebased, through every other outcome: no access where the store serves no records; a record withdrawn is
counted; one that had left, or leaves before the update claim, is not; and a store that fails at the read or the write
closes the Directory (R68). Two readings here are the model's: a rebuild that ends at the write keeps its cursor, where
R138 says two things (DEDUCED, log 16), and the captures of BANK_LOST, REBUILD_FAILED and STORE_FAILED hold the key of
the live record in the slot at the access, if any (DEDUCED, log 9). That no claim of others comes between the read and
the write is the model's choice (DESIGN CHOICE, log 23). -/
def Obligations.RebaseGrantMovesTheRecordBack : Prop :=
  (∀ (s : State) (d : NewDay) (key slot : Nat) (r r' : RecordBody) (old : Entry) (clamped : Bool),
      GrantBegun .command (some slot) key s → s.cmd = some (.newDay d) → d.rebase = some (key, slot) →
      s.serving = true → s.dir.isOpen = true → WriteHolds s slot → PrimaryHolds s slot r →
      (s.dir.order.find? fun x => x.key == key && x.slot == slot) = some old → RebasedTo r r' clamped →
      let new : Entry := { entryOf r' slot with key := key, slot := slot }
      ∃ t, exec (.rebaseGrant .whole) s = .next t ∧
        t.dir = { s.dir with
          order := insertEntry new (s.dir.order.filter fun x => !(x.key == key && x.slot == slot)) } ∧
        WrittenTo s t slot r' ∧ OtherCopiesKept s t (writtenBanks s slot) slot ∧
        t.cmd = some (.newDay { d with
          rebase := none, rebased := d.rebased + 1, clamped := d.clamped + (if clamped then 1 else 0) }) ∧
        t.phrases = (moveReferences old new s).phrases ∧ t.events = (moveReferences old new s).events ∧
        t.port = s.port ∧ t.store = s.store ∧ SameElsewhere s t ∧ GrantEnded { s with cmd := t.cmd } t) ∧
  (∀ (s u : State) (d : NewDay) (key slot : Nat) (r r' : RecordBody) (clamped : Bool),
      GrantBegun .command (some slot) key s → s.cmd = some (.newDay d) → d.rebase = some (key, slot) →
      readBody .command slot key s = .body r u → RebasedTo r r' clamped →
      (∀ (w : State) (old : Entry), writeBody .command slot r' u = .stored w → w.dir.isOpen = true →
        (w.dir.order.find? fun x => x.key == key && x.slot == slot) = some old →
        let new : Entry := { entryOf r' slot with key := key, slot := slot }
        exec (.rebaseGrant .whole) s = .next (endGrant { w with
          dir := { w.dir with
            order := insertEntry new (w.dir.order.filter fun x => !(x.key == key && x.slot == slot)) }
          phrases := (moveReferences old new w).phrases
          events := (moveReferences old new w).events
          cmd := some (.newDay { d with
            rebase := none, rebased := d.rebased + 1, clamped := d.clamped + (if clamped then 1 else 0) }) })) ∧
      (∀ w : State, writeBody .command slot r' u = .stored w →
        (∀ y ∈ w.dir.order, ¬ (y.key = key ∧ y.slot = slot)) →
        exec (.rebaseGrant .whole) s =
          .next (endGrant { w with cmd := some (.newDay { d with rebase := none }) })) ∧
      (∀ (x : Extent) (w : State), writeBody .command slot r' u = .failed w →
        exec (.rebaseGrant x) s = .next (endGrant { w with cmd := some (.newDay { d with rebase := none }) }))) ∧
  (∀ (s : State) (x : Extent) (d : NewDay) (key slot : Nat), GrantBegun .command (some slot) key s →
    s.cmd = some (.newDay d) → d.rebase = some (key, slot) →
    let goesOn : State := { s with cmd := some (.newDay { d with rebase := none }) }
    (s.serving = false → exec (.rebaseGrant x) s = .next (endGrant goesOn)) ∧
    (s.serving = true → s.dir.isOpen = true → Unreadable s slot →
      ((∀ y ∈ s.dir.order, ¬ (y.key = key ∧ y.slot = slot)) → exec (.rebaseGrant x) s = .next (endGrant goesOn)) ∧
      (∀ e, (s.dir.order.find? fun y => y.key == key && y.slot == slot) = some e →
        ∃ t, exec (.rebaseGrant x) s = .next t ∧
          t.cmd = some (.newDay { d with rebase := none, withdrawn := d.withdrawn + 1 }) ∧
          t.dir = { s.dir with order := s.dir.order.filter fun y => !(y.key == e.key && y.slot == e.slot) } ∧
          t.phrases = (releaseEntry e s).phrases ∧
          t.events.firstFatal = s.events.firstFatal.or
            (some (captureAt .withdrawn slot (some key) (some s.store.primary) .command s)) ∧
          t.port = s.port ∧ t.store = s.store ∧ SameCopies s t ∧ SameElsewhere s t ∧
          GrantEnded { s with cmd := t.cmd } t)) ∧
    (∀ u : State, readBody .command slot key s = .failed u →
      exec (.rebaseGrant x) s = .next (endGrant { u with cmd := goesOn.cmd }))) ∧
  (∀ (s : State) (d : NewDay) (key slot : Nat) (r r' : RecordBody) (clamped : Bool),
    GrantBegun .command (some slot) key s → s.cmd = some (.newDay d) → d.rebase = some (key, slot) →
    s.dir.isOpen = true → (s.dir.order.find? fun x => x.key == key && x.slot == slot) = some (entryOf r slot) →
    RebasedTo r r' clamped →
    let p := s.store.primary
    let q := otherBank p
    let rebased (t : State) : Prop := exec (.rebaseGrant .whole) s = .next t ∧
      t.dir = { s.dir with
        order := insertEntry (entryOf r' slot) (s.dir.order.filter fun x => !(x.key == key && x.slot == slot)) } ∧
      t.cmd = some (.newDay { d with
        rebase := none, rebased := d.rebased + 1, clamped := d.clamped + (if clamped then 1 else 0) }) ∧
      t.phrases = s.phrases ∧ t.port = s.port ∧ SameElsewhere s t
    (s.serving = true → WriteHolds s slot → (s.copy p slot).check = .correctable →
      (s.copy p slot).contents = .body r →
      ∃ t, rebased t ∧ WrittenTo s t slot r' ∧ OtherCopiesKept s t (writtenBanks s slot) slot ∧ t.store = s.store ∧
        t.events = { s.events with
          sticky := s.events.sticky ||| 0x001
          firstError := s.events.firstError.or (some (captureAt .corrected slot (some key) (some p) .command s)) } ∧
        GrantEnded { s with cmd := t.cmd } t) ∧
    (s.store.state = .mirrored → WriteHolds s slot → (s.copy p slot).check = .uncorrectable →
      (s.copy q slot).check ≠ .uncorrectable → (s.copy q slot).contents = .body r →
      ∃ t, rebased t ∧ WrittenTo s t slot r' ∧ OtherCopiesKept s t [p, q] slot ∧ t.store = s.store ∧
        t.events = { s.events with
          sticky := s.events.sticky ||| 0x002
          firstError := s.events.firstError.or (some (captureAt .repaired slot (some key) (some p) .command s)) } ∧
        GrantEnded { s with cmd := t.cmd } t) ∧
    (∀ lost : Bank, s.store.state = .mirrored → (s.copy lost slot).stuck = true →
      (s.copy (otherBank lost) slot).stuck = false →
      (PrimaryHolds s slot r ∨ ((s.copy p slot).check = .uncorrectable ∧ (s.copy q slot).check ≠ .uncorrectable ∧
        (s.copy q slot).contents = .body r)) →
      ∃ t, rebased t ∧ t.copy (otherBank lost) slot = goodCopy r' ∧ t.copy lost slot = failedCopy (s.copy lost slot) ∧
        OtherCopiesKept s t [p, q] slot ∧ BankLostFrom s t slot (keyIn slot s) lost .command ∧
        GrantEnded { s with cmd := t.cmd } t) ∧
    (s.store.state = .mirrored → (s.copy p slot).check = .correctable → (s.copy p slot).contents = .body r →
      (s.copy p slot).stuck = true → (s.copy q slot).stuck = false →
      ∃ t, rebased t ∧ t.copy q slot = goodCopy r' ∧ t.copy p slot = failedCopy (s.copy p slot) ∧
        OtherCopiesKept s t [p, q] slot ∧ BankLostFrom s t slot (keyIn slot s) p .command ∧
        GrantEnded { s with cmd := t.cmd } t) ∧
    (∀ origin, s.store.state = .rebuilding → slot < s.store.rebuildCursor → s.store.origin = some origin →
      PrimaryHolds s slot r → (s.copy p slot).stuck = false → (s.copy q slot).stuck = true →
      ∃ t, rebased t ∧ t.copy p slot = goodCopy r' ∧ t.copy q slot = failedCopy (s.copy q slot) ∧
        OtherCopiesKept s t [p, q] slot ∧ t.store = { s.store with state := origin, origin := none } ∧
        t.events = { s.events with
          sticky := s.events.sticky ||| 0x040
          firstError := s.events.firstError.or
            (some (captureAt .rebuildFailed slot (keyIn slot s) (some q) .command s)) } ∧
        t.arb = (endGrant { s.withRequests false s.arb.waiting.sweep with cmd := t.cmd, store := t.store }).arb ∧
        t.sweep.cursor = s.sweep.cursor ∧
        t.sweep.timer = (if s.params.sweepEnable = 1 ∧ sweepRunsIn origin = true then some s.params.sweepInterval
          else s.sweep.timer))) ∧
  (∀ (s : State) (x : Extent) (d : NewDay) (key slot : Nat) (r : RecordBody), GrantBegun .command (some slot) key s →
    s.cmd = some (.newDay d) → d.rebase = some (key, slot) →
    let p := s.store.primary
    let q := otherBank p
    let fails (key' : Option Nat) (bank : Option Bank) : Prop := ∃ t, exec (.rebaseGrant x) s = .next t ∧
      t.cmd = some (.newDay { d with rebase := none }) ∧ t.port = s.port ∧ FailedFrom s t slot key' bank .command ∧
      SameElsewhere s t ∧ t.sweep.timer = none ∧
      t.arb = (endGrant { s.withRequests false false with cmd := t.cmd, store := t.store }).arb
    (s.store.state = .single ∨ s.store.state = .degraded ∨
        (s.store.state = .rebuilding ∧ s.store.rebuildCursor ≤ slot) →
      (s.copy p slot).check ≠ .uncorrectable → (s.copy p slot).stuck = true → fails (keyIn slot s) (some p)) ∧
    (s.store.state = .rebuilding → slot < s.store.rebuildCursor → (s.copy p slot).stuck = true →
      ((s.copy p slot).check = .correctable → fails (keyIn slot s) (some p)) ∧
      (PrimaryHolds s slot r → fails (keyIn slot s) (if (s.copy q slot).stuck then none else some p))) ∧
    (s.store.state = .mirrored → (s.copy p slot).stuck = true → (s.copy q slot).stuck = true →
      (PrimaryHolds s slot r ∨
        ((s.copy p slot).check = .uncorrectable ∧ (s.copy q slot).check ≠ .uncorrectable)) →
      fails (keyIn slot s) none) ∧
    (s.store.state = .mirrored → (s.copy p slot).check = .correctable → (s.copy p slot).stuck = true →
      (s.copy q slot).stuck = true →
      ∃ t, exec (.rebaseGrant x) s = .next t ∧ t.cmd = some (.newDay { d with rebase := none }) ∧ t.port = s.port ∧
        t.store = { s.store with state := .failed, primary := q, failedBank := some p, origin := none } ∧
        t.dir = { isOpen := false, order := [] } ∧
        t.events.firstError = s.events.firstError.or
          (some (captureAt .bankLost slot (keyIn slot s) (some p) .command s)) ∧
        t.events.firstFatal = s.events.firstFatal.or
          (some (captureAt .storeFailed slot (keyIn slot s) (some q) .command s)) ∧ SameElsewhere s t))

/-- A second tick, in whatever order it reaches its four holders: the seconds and the minute, the silence count, the
refresh timers and the hold timers each move as their rules give; a minute advance requests a retirement pass (R57,
R60); a link-combination reset that the tick completes gives a full reset (R56, R89, R109, R110, R158), which keeps the
queue and the lines from outside and releases the data lines (DESIGN CHOICE, log 10), and drops the sample of a read
whose strobe is low (DESIGN CHOICE, log 22). A hold timer
is 0 while ADVANCE is released, and at the first tick at which it stands asserted; it rises by one, to 3, at each
later one (R109). A refresh timer that expires starts its view's pass within the tick, or stands at 0 until the row
REFRESH_EXPIRY starts it, as the order names the View Engine's share (DESIGN CHOICE, log 7). -/
def Obligations.SecondTickMovesEveryTimer : Prop :=
  ∀ (order : List TickHolder) (s : State), (Instr.secondTick order).wellFormed = true → s.inReset = false →
    (combinationHeld (holdTimersTick s) = false →
      ∃ t, exec (.secondTick order) s = .next t ∧
        t.clock.seconds = (if s.clock.seconds < 59 then s.clock.seconds + 1 else 0) ∧
        t.clock.minute = (if 59 ≤ s.clock.seconds ∧ s.clock.isSet = true ∧ s.clock.minute < 2879 then
          s.clock.minute + 1 else s.clock.minute) ∧
        t.clock = { s.clock with seconds := t.clock.seconds, minute := t.clock.minute } ∧
        t.retire = (if 59 ≤ s.clock.seconds ∧ s.clock.isSet = true ∧ s.clock.minute < 2879 then
          if s.retire.pass = none ∧ s.clock.hold = false then { s.retire with pass := some { time := 0, key := 0 } }
          else { s.retire with pending := true }
          else s.retire) ∧
        t.port = { s.port with silence := t.port.silence, stale := t.port.stale } ∧
        t.port.silence = min 1023 (s.port.silence + 1) ∧
        (t.port.stale = true ↔ s.port.stale = true ∨
          (s.params.silenceLimit ≠ 0 ∧ s.port.silence + 1 = s.params.silenceLimit ∧ s.port.silence < 1023)) ∧
        (∀ n : Fin 4,
          ((s.link n).advance = false → t.link n = { s.link n with holdTimer := 0, heldAtTick := false }) ∧
          ((s.link n).advance = true → (s.link n).heldAtTick = false →
            t.link n = { s.link n with holdTimer := 0, heldAtTick := true }) ∧
          ((s.link n).advance = true → (s.link n).heldAtTick = true →
            t.link n = { s.link n with holdTimer := min 3 ((s.link n).holdTimer + 1) })) ∧
        (∀ (v : Fin 4) (k : Nat), (s.view v).state = .resting → (s.view v).refreshTimer = some k →
          (2 ≤ k ∨ order.contains .viewTimers = true → t.view v = { s.view v with refreshTimer := some (k - 1) }) ∧
          (k ≤ 1 → order.contains .viewEngine = true →
            (t.view v).state = .running ∧ (t.view v).passNumber = ((s.view v).passNumber + 1) % 256 ∧
              (t.view v).rowIndex = 0 ∧ (t.view v).refreshTimer = none ∧ (t.view v).config = (s.view v).config)) ∧
        (∀ v : Fin 4, (s.view v).state ≠ .resting → t.view v = s.view v) ∧
        t.cmd = s.cmd ∧ t.dir = s.dir ∧ t.mem = s.mem ∧ t.store = s.store ∧ t.arb = s.arb ∧ t.sweep = s.sweep ∧
        t.phrases = s.phrases ∧ t.composer = s.composer ∧ t.events = s.events ∧ t.pending = s.pending ∧
        t.inReset = false) ∧
    (combinationHeld (holdTimersTick s) = true → ∃ t, exec (.secondTick order) s = .next t ∧ FullResetOf s t)

/-- A minute advance raises the minute by one, brings the seconds counter back to 0 and requests a retirement pass (R57,
R60). The tick that brings the silence count to a nonzero P3 begins the stale condition, and STALE stands while it
stands (R158, R164). That MINUTE_ADVANCE and STALE are rows of their own, which each take one holder's share of a second
tick and leave the other holders unmoved, is the model's choice (DESIGN CHOICE, log 7). -/
def Obligations.MinuteAndSilenceReachTheirLimits : Prop :=
  (∀ s : State, s.inReset = false → s.clock.seconds = 59 → s.clock.isSet = true → s.clock.minute < 2879 →
     exec .minuteAdvance s = .next { s with
       clock := { s.clock with minute := s.clock.minute + 1, seconds := 0 }
       retire := if s.retire.pass = none ∧ s.clock.hold = false then
           { s.retire with pass := some { time := 0, key := 0 } }
         else { s.retire with pending := true } }) ∧
  (∀ s : State, s.inReset = false → s.port.stale = false → s.params.silenceLimit ≠ 0 →
     s.params.silenceLimit = s.port.silence + 1 → s.port.silence < 1023 →
     ∃ t, exec .stale s = .next t ∧ t = s.onlyPort { s.port with silence := s.port.silence + 1, stale := true } ∧
       t.flags.getLsbD 7 = true)

/-- A step of a retirement pass: at end of order, or at an entry beyond the minute, the pass ends and a pending one
starts; an entry that is due is removed and one that is not is left, the pass position moving to it (R61 to R63). -/
def Obligations.RetirementStepRemovesWhatIsDue : Prop :=
  ∀ (s : State) (pos : Position), s.inReset = false → s.retire.pass = some pos → s.clock.hold = false →
    let found := s.entries.find? fun x => posBefore pos (entryPos x)
    let linger (e : Entry) := match e.status with
      | .planned => s.params.overdueGrace
      | .boarding => s.params.overdueGrace
      | .departed => s.params.departedLinger
      | .cancelled => s.params.cancelledLinger
    let passEnded : RetirementUnit :=
      { pass := if s.retire.pending then some { time := 0, key := 0 } else none, pending := false }
    (found = none → exec .retirementStep s = .next { s with retire := passEnded }) ∧
    (∀ e, found = some e → s.clock.minute < e.effective → exec .retirementStep s = .next { s with retire := passEnded }) ∧
    (∀ e, found = some e → e.effective ≤ s.clock.minute →
      (e.held = false ∧ e.effective + linger e ≤ s.clock.minute →
        exec .retirementStep s = .next { s with
          dir := { s.dir with order := s.dir.order.filter fun x => !(x.key == e.key && x.slot == e.slot) }
          phrases := (releaseEntry e s).phrases
          events := (releaseEntry e s).events
          retire := { s.retire with pass := some { time := e.effective, key := e.key } } }) ∧
      (¬ (e.held = false ∧ e.effective + linger e ≤ s.clock.minute) →
        exec .retirementStep s = .next { s with
          retire := { s.retire with pass := some { time := e.effective, key := e.key } } }))

/-! ## Store -/

/-- SET STORE STATE, and CLEAR, which is the same command: an input outside its codes ends FIELD_RANGE, a pair that is
no row of the table ends BAD_TRANSITION, and any other asks for a grant that covers no slot (R129, R131). -/
def Obligations.SetStoreStateTestsTheTransition : Prop :=
  ∀ (i : Instr) (s : State), (i = .setStoreState ∨ i = .clear) → CommandReady 0x20 s →
    ((8 ≤ s.place 0 ∨ 2 ≤ s.place 1) →
      exec i s = .next (s.onlyPort { portTaken s.port with lastResult := .fieldRange })) ∧
    (∀ (target : StoreState) (bank : Bank), s.place 0 = target.code → s.place 1 = bankCode bank →
      (¬ AllowedTarget s.store.state target →
        exec i s = .next (s.onlyPort { portTaken s.port with lastResult := .badTransition })) ∧
      (AllowedTarget s.store.state target → exec i s = .next (s.commandAsks (.storeState target bank) none 0)))

/-- The grant of SET STORE STATE enters the new state with its changes at entry and completes OK: CLEARING empties and
closes the Directory, releases every entry's references and stops the copier and the sweep; READY opens the Directory
and starts an enabled sweep; SINGLE and DEGRADED begin a rebuild at cursor 0 with the copier's first request and the
sweep paused; MIRRORED keeps one bank; REBUILDING returns to its origin with the sweep resumed (R18, R129, R130, R131,
R135, R136, R141, R143). The port then goes to the first request that waits (R118). The row of R129's table is chosen
by the store state at the grant (DESIGN CHOICE, unsafe, log 8). -/
def Obligations.StoreStateGrantEntersTheState : Prop :=
  ∀ (s : State) (target : StoreState) (bank : Bank), GrantBegun .command none 0 s →
    s.cmd = some (.storeState target bank) → AllowedTarget s.store.state target →
    let started (st : StoreState) :=
      if s.params.sweepEnable = 1 ∧ sweepRunsIn st = true then some s.params.sweepInterval else s.sweep.timer
    ∃ t, exec .storeStateGrant s = .next t ∧ t.cmd = none ∧ t.port = { s.port with lastResult := .ok } ∧ SameCopies s t ∧
      SameElsewhere s t ∧ t.sweep.cursor = s.sweep.cursor ∧
      (target = .clearing →
        t.store = { s.store with state := .clearing, failedBank := none, origin := none, clearingCursor := 0 } ∧
        t.dir = { isOpen := false, order := [] } ∧ t.sweep.timer = none ∧
        t.phrases = (s.dir.order.foldl (fun u e => releaseEntry e u) s).phrases ∧
        t.events = (s.dir.order.foldl (fun u e => releaseEntry e u) s).events ∧
        t.arb = (endGrant { s.withRequests false false with cmd := none, store := t.store }).arb) ∧
      (target ≠ .clearing → t.phrases = s.phrases ∧ t.events = s.events) ∧
      (s.store.state = .ready → target ≠ .clearing →
        t.store = { s.store with
          state := target
          primary := if target = .single then bank else .A
          failedBank := if target = .mirrored then none else s.store.failedBank } ∧
        t.dir = { s.dir with isOpen := true } ∧ t.sweep.timer = started target ∧
        t.arb = (endGrant { s with cmd := none, store := t.store }).arb) ∧
      (s.store.state = .single ∨ s.store.state = .degraded → target = .mirrored →
        t.store = { s.store with state := .rebuilding, origin := some s.store.state, rebuildCursor := 0 } ∧
        t.dir = s.dir ∧ t.sweep.timer = none ∧
        t.arb = (endGrant { s.withRequests true false with cmd := none, store := t.store }).arb ∧
        (s.arb.waiting.command = false → s.arb.waiting.composer = false →
          t.arb.held = some { holder := .copier, slot := some 0, key := 0, progress := .begun }) ∧
        (s.arb.waiting.command = true ∨ s.arb.waiting.composer = true → t.arb.waiting.copier = true)) ∧
      (s.store.state = .mirrored → target = .single →
        t.store = { s.store with state := .single, primary := bank } ∧ t.dir = s.dir ∧
        t.sweep.timer = s.sweep.timer ∧ t.arb = (endGrant { s with cmd := none, store := t.store }).arb) ∧
      (∀ origin, s.store.state = .rebuilding → s.store.origin = some origin → target = .single →
        t.store = { s.store with state := origin, origin := none } ∧ t.dir = s.dir ∧
        t.sweep.timer = started origin ∧
        t.arb = (endGrant { s.withRequests false s.arb.waiting.sweep with cmd := none, store := t.store }).arb)

/-- READ STATE, READ PARAMETER and READ EVENTS change nothing and report what stands (R132, R160, R166). -/
def Obligations.ReadCommandsReportWhatStands : Prop :=
  ∀ s : State,
    (CommandReady 0x21 s →
      exec .readState s = .next (s.onlyPort (portAfter s.port .ok (some (stateBytes s s.dir.order.length)) false))) ∧
    (CommandReady 0x29 s → s.place 0 ≤ 10 →
      exec .readParameter s = .next (s.onlyPort (portAfter s.port .ok
        (some ([byteOf (s.place 0)] ++ twoBytes (s.params.value (s.place 0)))) false))) ∧
    (CommandReady 0x29 s → 10 < s.place 0 →
      exec .readParameter s = .next (s.onlyPort { portTaken s.port with lastResult := .fieldRange })) ∧
    (CommandReady 0x30 s →
      exec .readEvents s = .next (s.onlyPort (portAfter s.port .ok
        (some (twoBytes s.flags.toNat ++ twoBytes s.events.attention.toNat ++ twoBytes s.events.fault.toNat ++
          [byteOf ((if s.events.firstFatal.isSome then 1 else 0) + (if s.events.firstError.isSome then 2 else 0))]))
        false)))

/-- CHECK TEST asks for the named slot's grant, and its grant changes the named copy as a disturbance of the named
kind does and nothing else of Record Memory (R116, R117). A disturbance to a copy whose slot a grant holds waits for
the grant's end; any other takes effect at once, making a GOOD copy CORRECTABLE, any copy UNCORRECTABLE, or its
location stuck (R116). At the end of a grant the disturbances that waited take effect, in the order in which they came
(R116), and the port goes to the waiting requester that stands first: command, composer, copier, sweep (R118). A sweep
grant begins with no cursor set anew, also where P8 or P9 was set while its request waited (the model's reading of R144
and R146: DEDUCED, log 24). -/
def Obligations.DisturbancesAreAskedForOrArrive : Prop :=
  ((∀ (s : State) (bank : Bank) (kind : DisturbanceKind), CommandReady 0x22 s → s.place 0 = bankCode bank →
     disturbanceOf (s.place 2) = some kind →
     exec .checkTest s = .next (s.commandAsks (.checkTest bank (s.place 1) kind) (some (s.place 1)) 0)) ∧
   (∀ (s : State) (bank : Bank) (slot : Nat) (kind : DisturbanceKind), GrantBegun .command (some slot) 0 s →
     s.cmd = some (.checkTest bank slot kind) → slot < 256 →
     ∃ t, exec .checkTestGrant s = .next t ∧
       t.copy bank slot = (match kind with
         | .correctable => { s.copy bank slot with
             check := if (s.copy bank slot).check = .good then .correctable else (s.copy bank slot).check }
         | .uncorrectable => { s.copy bank slot with check := .uncorrectable }
         | .stuck => { s.copy bank slot with stuck := true }) ∧
       OtherCopiesKept s t [bank] slot ∧ t.cmd = none ∧ t.port = { s.port with lastResult := .ok } ∧ t.dir = s.dir ∧
       t.store = s.store ∧ t.phrases = s.phrases ∧ t.events = s.events ∧ SameElsewhere s t ∧
       GrantEnded { s with cmd := none } t)) ∧
  (∀ (s : State) (bank : Bank) (slot : Nat) (kind : DisturbanceKind), s.inReset = false → slot < 256 →
     (∀ g, s.arb.held = some g → g.slot = some slot →
       exec (.disturbance bank slot kind) s = .next { s with
         arb := { s.arb with deferred := s.arb.deferred ++ [(bank, slot, kind)] } }) ∧
     ((∀ g, s.arb.held = some g → g.slot ≠ some slot) →
       exec (.disturbance bank slot kind) s = .next (s.setCopy bank slot (match kind with
         | .correctable => { s.copy bank slot with
             check := if (s.copy bank slot).check = .good then .correctable else (s.copy bank slot).check }
         | .uncorrectable => { s.copy bank slot with check := .uncorrectable }
         | .stuck => { s.copy bank slot with stuck := true })))) ∧
  (∀ s : State, (∀ d ∈ s.arb.deferred, d.2.1 < 256) →
     let t := endGrant s
     (∀ bank n, t.copy bank n = ((s.arb.deferred.filter fun d => d.1 == bank && d.2.1 == n).foldl
       (fun c d => match d.2.2 with
         | .correctable => if c.check = .good then { c with check := .correctable } else c
         | .uncorrectable => { c with check := .uncorrectable }
         | .stuck => { c with stuck := true }) (s.copy bank n))) ∧
     (s.arb.waiting.first = none → t.arb = { s.arb with held := none, deferred := [] } ∧ t.sweep = s.sweep) ∧
     (∀ c, s.arb.waiting.command = true → s.cmd = some c →
       t.arb = { held := some { holder := .command, slot := (commandTarget c).1, key := (commandTarget c).2,
                                progress := .begun },
                 waiting := { s.arb.waiting with command := false }, deferred := [] } ∧ t.sweep = s.sweep) ∧
     (∀ v e, s.arb.waiting.command = false → s.arb.waiting.composer = true → s.composer.work = .candidate v e →
       t.arb = { held := some { holder := .composer, slot := some e.slot, key := e.key, progress := .begun },
                 waiting := { s.arb.waiting with composer := false }, deferred := [] } ∧ t.sweep = s.sweep) ∧
     (s.arb.waiting.command = false → s.arb.waiting.composer = false → s.arb.waiting.copier = true →
       t.arb = { held := some { holder := .copier, slot := some s.store.rebuildCursor, key := 0, progress := .begun },
                 waiting := { s.arb.waiting with copier := false }, deferred := [] } ∧ t.sweep = s.sweep) ∧
     (s.arb.waiting.command = false → s.arb.waiting.composer = false → s.arb.waiting.copier = false →
       s.arb.waiting.sweep = true →
       t.arb = { held := some { holder := .sweep, slot := some s.sweep.cursor, key := 0, progress := .begun },
                 waiting := { s.arb.waiting with sweep := false }, deferred := [] } ∧
         t.sweep = { s.sweep with setAnew := false }) ∧
     t = { s with mem := t.mem, arb := t.arb, sweep := t.sweep })

/-- A clearing step writes free to both copies of the slot its cursor names, without a verify, and raises the cursor;
at 256 the store enters READY (R115, R131). -/
def Obligations.ClearingStepFreesOneSlot : Prop :=
  ∀ s : State, s.inReset = false → s.store.state = .clearing → s.arb.held = none → s.arb.waiting.first = none →
    let n := s.store.clearingCursor
    ∃ t, exec .clearingStep s = .next t ∧
      (∀ b : Bank, t.copy b n = if (s.copy b n).stuck then { s.copy b n with check := .uncorrectable }
        else { contents := .free, check := .good, stuck := false }) ∧
      OtherCopiesKept s t [.A, .B] n ∧
      t.store = { s.store with
        clearingCursor := n + 1, state := if n + 1 = 256 then .ready else .clearing } ∧
      t = { s with mem := t.mem, store := t.store }

/-- The copier's step on a slot whose target copy is not stuck: a free slot's target is written free, a live slot's
target takes the body of the GOOD source; the cursor goes on, the grant ends and the copier requests its next grant,
and at 256 the store is MIRRORED with REBUILD_DONE and the sweep resumes (R118, R136, R137, R139, R143). A failed
verify of the copier's target write returns the store to the rebuild's origin with the primary kept, the sweep
resumes, and REBUILD_FAILED is raised with the slot, the key of a live record there (DEDUCED, log 9) and the target bank
(R138). A live
slot whose source copy is CORRECTABLE is corrected and then copied; an UNCORRECTABLE one is withdrawn and its target
written free; one whose rewrite fails fails the store, with no target write (R137). The read and the target write stand
in one step (DESIGN CHOICE, log 23). -/
def Obligations.CopierStepCopiesOrFails : Prop :=
  (∀ (s : State) (slot : Nat) (v : Contents), GrantBegun .copier (some slot) 0 s → s.store.state = .rebuilding →
     MemoryCanonical s →
     (s.copy (otherBank s.store.primary) slot).stuck = false → slot < 256 →
     ((v = .free ∧ ∀ e ∈ s.entries, e.slot ≠ slot) ∨
       ((∃ e ∈ s.entries, e.slot = slot) ∧ (s.copy s.store.primary slot).check = .good ∧
         v = (s.copy s.store.primary slot).contents)) →
     ∃ t, exec (.copierStep .whole) s = .next t ∧
       t.copy (otherBank s.store.primary) slot = { contents := v, check := .good, stuck := false } ∧
       OtherCopiesKept s t [otherBank s.store.primary] slot ∧
       (slot + 1 < 256 → t.store = { s.store with rebuildCursor := slot + 1 } ∧ t.events = s.events ∧
         CopierAskedNext slot s t) ∧
       (slot + 1 = 256 →
         t.store = { s.store with state := .mirrored, failedBank := none, origin := none, rebuildCursor := 256 } ∧
         t.events = { s.events with sticky := s.events.sticky ||| 0x020 } ∧
         t.arb = (endGrant { s with store := t.store }).arb ∧
         t.sweep.timer = (if s.params.sweepEnable = 1 then some s.params.sweepInterval else s.sweep.timer) ∧
         t.sweep.cursor = s.sweep.cursor) ∧
       t.dir = s.dir ∧ t.phrases = s.phrases ∧ t.cmd = s.cmd ∧ t.port = s.port ∧ SameElsewhere s t) ∧
  (∀ (s : State) (slot : Nat) (origin : StoreState), GrantBegun .copier (some slot) 0 s →
     s.store.state = .rebuilding → s.store.origin = some origin →
     (s.copy (otherBank s.store.primary) slot).stuck = true →
     ((∀ e ∈ s.entries, e.slot ≠ slot) ∨
       ((∃ e ∈ s.entries, e.slot = slot) ∧ (s.copy s.store.primary slot).check = .good)) →
     ∃ t, exec (.copierStep .whole) s = .next t ∧ t.store = { s.store with state := origin, origin := none } ∧
       t.copy (otherBank s.store.primary) slot =
         { s.copy (otherBank s.store.primary) slot with check := .uncorrectable } ∧
       OtherCopiesKept s t [otherBank s.store.primary] slot ∧
       t.events = { s.events with
         sticky := s.events.sticky ||| 0x040
         firstError := s.events.firstError.or
           (some (captureAt .rebuildFailed slot (keyIn slot s) (some (otherBank s.store.primary)) .rebuild s)) } ∧
       t.arb = (endGrant { s.withRequests false s.arb.waiting.sweep with store := t.store }).arb ∧
       t.sweep.timer = (if s.params.sweepEnable = 1 ∧ sweepRunsIn origin = true then some s.params.sweepInterval
         else s.sweep.timer) ∧
       t.sweep.cursor = s.sweep.cursor ∧
       t.dir = s.dir ∧ t.phrases = s.phrases ∧ t.cmd = s.cmd ∧ t.port = s.port ∧ SameElsewhere s t) ∧
  (∀ (s : State) (slot : Nat) (e : Entry), GrantBegun .copier (some slot) 0 s → s.store.state = .rebuilding →
     s.dir.isOpen = true → (s.entries.find? fun x => x.slot == slot) = some e →
     (s.entries.find? fun x => x.key == e.key && x.slot == slot) = some e → slot + 1 < 256 → MemoryCanonical s →
     let p := s.store.primary
     let q := otherBank p
     (∀ r, (s.copy p slot).check = .correctable → (s.copy p slot).contents = .body r → (s.copy p slot).stuck = false →
       (s.copy q slot).stuck = false →
       ∃ t, exec (.copierStep .whole) s = .next t ∧ t.copy p slot = goodCopy r ∧ t.copy q slot = goodCopy r ∧
         t.store = { s.store with rebuildCursor := slot + 1 } ∧ t.dir = s.dir ∧ t.phrases = s.phrases ∧
         t.events = { s.events with
           sticky := s.events.sticky ||| 0x001
           firstError := s.events.firstError.or (some (captureAt .corrected slot (some e.key) (some p) .rebuild s)) } ∧
         t.cmd = s.cmd ∧ t.port = s.port ∧ SameElsewhere s t ∧ CopierAskedNext slot s t) ∧
     ((s.copy p slot).check = .uncorrectable → (s.copy q slot).stuck = false →
       ∃ t, exec (.copierStep .whole) s = .next t ∧ t.copy p slot = s.copy p slot ∧
         t.copy q slot = { contents := .free, check := .good, stuck := false } ∧
         t.store = { s.store with rebuildCursor := slot + 1 } ∧
         t.dir = { s.dir with order := s.dir.order.filter fun x => !(x.key == e.key && x.slot == e.slot) } ∧
         t.phrases = (releaseEntry e s).phrases ∧ t.events.sticky = (releaseEntry e s).events.sticky ||| 0x004 ∧
         t.events.firstFatal = s.events.firstFatal.or
           (some (captureAt .withdrawn slot (some e.key) (some p) .rebuild s)) ∧
         t.cmd = s.cmd ∧ t.port = s.port ∧ SameElsewhere s t ∧ CopierAskedNext slot s t) ∧
     ((s.copy p slot).check = .correctable → (s.copy p slot).stuck = true →
       ∃ t, exec (.copierStep .whole) s = .next t ∧ t.copy p slot = failedCopy (s.copy p slot) ∧
         t.copy q slot = s.copy q slot ∧ FailedFrom s t slot (some e.key) (some p) .rebuild ∧
         t.arb = (endGrant { s.withRequests false false with store := t.store }).arb ∧ t.sweep.timer = none ∧
         t.sweep.cursor = s.sweep.cursor ∧ t.cmd = s.cmd ∧ t.port = s.port ∧ SameElsewhere s t))

/-- The sweep timer's expiry stops it and requests the sweep's grant on the slot the cursor names (R144). A sweep step
on a free slot, and one on a sound slot, change no copy, and the cursor moves to the next slot of the range, which P8
follows P9 and 0 follows 255 (R142, R144, R145); a cursor set anew during the step stays (R146), and the port goes to
the first request that waits (R118). On a live slot of a MIRRORED store with a sound primary copy, a CORRECTABLE
secondary copy is corrected, an UNCORRECTABLE one is rewritten from the primary, and a secondary location that does
not hold loses its bank (R145), in one step with the primary's handling (DESIGN CHOICE, log 23). -/
def Obligations.SweepWalksItsRange : Prop :=
  (∀ (s : State) (k : Nat), s.inReset = false → s.sweep.timer = some k →
    ∃ t, exec .sweepTimerExpiry s = .next t ∧ t.sweep.timer = none ∧ t.sweep.cursor = s.sweep.cursor ∧
      t.arb = arbAfterRequest s.arb { holder := .sweep, slot := some s.sweep.cursor, key := 0, progress := .begun } ∧
      t.mem = s.mem ∧ t.dir = s.dir ∧ t.store = s.store ∧ t.events = s.events ∧ t.cmd = s.cmd ∧ t.port = s.port) ∧
  (∀ (s : State) (slot : Nat), GrantBegun .sweep (some slot) 0 s →
    ((∀ e ∈ s.entries, e.slot ≠ slot) ∨
      (sweepRunsIn s.store.state = true ∧ ∀ b, (s.copy b slot).check = .good)) →
    let cursor := if s.sweep.setAnew = true then s.sweep.cursor
      else if slot = s.params.sweepLast then s.params.sweepFirst else if 255 ≤ slot then 0 else slot + 1
    ∃ t, exec (.sweepStep .whole) s = .next t ∧ SameCopies s t ∧ t.sweep.cursor = cursor ∧ t.sweep.setAnew = false ∧
      t.sweep.timer = (if s.params.sweepEnable = 1 ∧ sweepRunsIn s.store.state = true then
        some s.params.sweepInterval else s.sweep.timer) ∧
      t.arb = (endGrant { s with sweep := { s.sweep with cursor := cursor } }).arb ∧ t.dir = s.dir ∧ t.store = s.store ∧
      t.events = s.events ∧ t.phrases = s.phrases ∧ t.cmd = s.cmd ∧ t.port = s.port ∧ SameElsewhere s t) ∧
  (∀ (s : State) (slot : Nat) (e : Entry), GrantBegun .sweep (some slot) 0 s → s.store.state = .mirrored →
    (s.entries.find? fun x => x.slot == slot) = some e → MemoryCanonical s →
    let p := s.store.primary
    let q := otherBank p
    let cursor := if s.sweep.setAnew = true then s.sweep.cursor
      else if slot = s.params.sweepLast then s.params.sweepFirst else if 255 ≤ slot then 0 else slot + 1
    let stepOver (t : State) : Prop := t.sweep.cursor = cursor ∧ t.sweep.setAnew = false ∧
      t.sweep.timer = (if s.params.sweepEnable = 1 then some s.params.sweepInterval else s.sweep.timer) ∧
      t.arb = (endGrant { s with sweep := { s.sweep with cursor := cursor } }).arb
    (s.copy p slot).check = .good →
    (∀ r, (s.copy q slot).check = .correctable → (s.copy q slot).contents = .body r → (s.copy q slot).stuck = false →
      ∃ t, exec (.sweepStep .whole) s = .next t ∧ t.copy q slot = goodCopy r ∧ OtherCopiesKept s t [q] slot ∧
        t.store = s.store ∧ t.dir = s.dir ∧
        t.events = { s.events with
          sticky := s.events.sticky ||| 0x001
          firstError := s.events.firstError.or (some (captureAt .corrected slot (some e.key) (some q) .sweep s)) } ∧
        t.phrases = s.phrases ∧ t.cmd = s.cmd ∧ t.port = s.port ∧ SameElsewhere s t ∧ stepOver t) ∧
    (∀ r, (s.copy q slot).check = .uncorrectable → (s.copy p slot).contents = .body r → (s.copy q slot).stuck = false →
      ∃ t, exec (.sweepStep .whole) s = .next t ∧ t.copy q slot = goodCopy r ∧ OtherCopiesKept s t [q] slot ∧
        t.store = s.store ∧ t.dir = s.dir ∧
        t.events = { s.events with
          sticky := s.events.sticky ||| 0x002
          firstError := s.events.firstError.or (some (captureAt .repaired slot (some e.key) (some p) .sweep s)) } ∧
        t.phrases = s.phrases ∧ t.cmd = s.cmd ∧ t.port = s.port ∧ SameElsewhere s t ∧ stepOver t) ∧
    ((s.copy q slot).check ≠ .good → (s.copy q slot).stuck = true →
      ∃ t, exec (.sweepStep .whole) s = .next t ∧ t.copy q slot = failedCopy (s.copy q slot) ∧
        OtherCopiesKept s t [q] slot ∧ BankLostFrom s t slot (some e.key) q .sweep ∧ t.dir = s.dir ∧
        t.phrases = s.phrases ∧ t.cmd = s.cmd ∧ t.port = s.port ∧ SameElsewhere s t ∧ stepOver t))

/-- A body read of a damaged copy. A CORRECTABLE primary copy is rewritten: on a passing verify CORRECTED is raised;
on a failing one a MIRRORED store loses the bank and any other serving store fails, closing the Directory (R121, R122,
R127, R128). In MIRRORED an UNCORRECTABLE primary copy is repaired from a readable secondary: both copies are written,
REPAIRED when both verify, the one bank lost whose verify fails, and the store failed when both fail (R123). A record
that no copy yields is withdrawn: it leaves the Directory, WITHDRAWN is raised, and no copy is written (R17, R26,
R126). The captures hold the key that the copier's or the sweep's slot query answered, and for another reader the key
of the live record, if any (R136, R144, R168; DEDUCED, log 9). -/
def Obligations.DamagedBodyReadsAreHandled : Prop :=
  (∀ (s : State) (op : Operation) (slot key : Nat) (r : RecordBody),
      let p := s.store.primary
      let known := if op = .rebuild ∨ op = .sweep then some key else keyIn slot s
      (s.copy p slot).check = .correctable → (s.copy p slot).contents = .body r →
      ((s.copy p slot).stuck = false → s.serving = true →
        ∃ t, readBody op slot key s = .body r t ∧ t.copy p slot = goodCopy r ∧ OtherCopiesKept s t [p] slot ∧
          t = { s with mem := t.mem, events := t.events } ∧
          t.events = { s.events with
            sticky := s.events.sticky ||| 0x001
            firstError := s.events.firstError.or (some (captureAt .corrected slot (some key) (some p) op s)) }) ∧
      ((s.copy p slot).stuck = true → s.store.state = .mirrored →
        ∃ t, readBody op slot key s = .body r t ∧ t.copy p slot = failedCopy (s.copy p slot) ∧
          OtherCopiesKept s t [p] slot ∧ BankLostFrom s t slot known p op ∧
          t = { s with mem := t.mem, store := t.store, events := t.events }) ∧
      ((s.copy p slot).stuck = true → s.store.state = .single ∨ s.store.state = .degraded ∨ s.store.state = .rebuilding →
        ∃ t, readBody op slot key s = .failed t ∧ t.copy p slot = failedCopy (s.copy p slot) ∧
          OtherCopiesKept s t [p] slot ∧ FailedFrom s t slot known (some p) op)) ∧
  (∀ (s : State) (op : Operation) (slot key : Nat) (r : RecordBody), s.store.state = .mirrored →
    let p := s.store.primary
    let q := otherBank p
    let known := if op = .rebuild ∨ op = .sweep then some key else keyIn slot s
    (s.copy p slot).check = .uncorrectable → (s.copy q slot).check ≠ .uncorrectable →
    (s.copy q slot).contents = .body r →
    ((s.copy p slot).stuck = false → (s.copy q slot).stuck = false →
      ∃ t, readBody op slot key s = .body r t ∧ t.copy p slot = goodCopy r ∧ t.copy q slot = goodCopy r ∧
        OtherCopiesKept s t [p, q] slot ∧ t = { s with mem := t.mem, events := t.events } ∧
        t.events = { s.events with
          sticky := s.events.sticky ||| 0x002
          firstError := s.events.firstError.or (some (captureAt .repaired slot (some key) (some p) op s)) }) ∧
    (∀ lost, (lost = p ∨ lost = q) → (s.copy lost slot).stuck = true → (s.copy (otherBank lost) slot).stuck = false →
      ∃ t, readBody op slot key s = .body r t ∧ t.copy (otherBank lost) slot = goodCopy r ∧
        t.copy lost slot = failedCopy (s.copy lost slot) ∧ OtherCopiesKept s t [p, q] slot ∧
        BankLostFrom s t slot known lost op ∧ t = { s with mem := t.mem, store := t.store, events := t.events }) ∧
    ((s.copy p slot).stuck = true → (s.copy q slot).stuck = true →
      ∃ t, readBody op slot key s = .failed t ∧ t.copy p slot = failedCopy (s.copy p slot) ∧
        t.copy q slot = failedCopy (s.copy q slot) ∧ OtherCopiesKept s t [p, q] slot ∧
        FailedFrom s t slot known none op)) ∧
  (∀ (s : State) (op : Operation) (slot key : Nat) (e : Entry), s.serving = true → s.dir.isOpen = true →
      (s.copy s.store.primary slot).check = .uncorrectable →
      (s.store.state = .mirrored → (s.copy (otherBank s.store.primary) slot).check = .uncorrectable) →
      (s.dir.order.find? fun x => x.key == key && x.slot == slot) = some e → s.events.firstFatal = none →
      ∃ t, readBody op slot key s = .withdrawn t ∧ t.mem = s.mem ∧ t.store = s.store ∧
        t.dir = { s.dir with order := s.dir.order.filter fun x => !(x.key == e.key && x.slot == e.slot) } ∧
        t.phrases = (releaseEntry e s).phrases ∧
        t.events.firstFatal = some
          { kind := .withdrawn, minute := s.captureMinute, slot := some slot, key := some key,
            bank := some s.store.primary, link := none, operation := op })

/-- A body write of ADD, AMEND or a rebase that meets stuck copies (R125). In MIRRORED a single one loses its bank,
and the body stands in the other bank and is stored, so the command goes on: an ADD still makes its record live
(R127). Where every copy that must hold is stuck the store fails: both in MIRRORED, the primary in SINGLE and
DEGRADED, the source in REBUILDING (R128, R140). A target copy alone that is stuck, below the rebuild cursor, ends the
rebuild with REBUILD_FAILED, and the body is stored: an AMEND still updates its entry (R138, R140). Two readings here
are the model's: the rebuild that a command's write below the cursor ends keeps its cursor, where R138 says two things
(DEDUCED, log 16), and the captures of BANK_LOST, REBUILD_FAILED and STORE_FAILED hold the key of the live record in the
slot at the access, if any, so that an ADD's has none (DEDUCED, log 9). -/
def Obligations.BodyWritesMeetStuckCopies : Prop :=
  (∀ (s : State) (op : Operation) (slot : Nat) (r : RecordBody),
    let p := s.store.primary
    let q := otherBank p
    (∀ lost, s.store.state = .mirrored → (s.copy lost slot).stuck = true →
      (s.copy (otherBank lost) slot).stuck = false →
      ∃ t, writeBody op slot r s = .stored t ∧ t.copy (otherBank lost) slot = goodCopy r ∧
        t.copy lost slot = failedCopy (s.copy lost slot) ∧ OtherCopiesKept s t [.A, .B] slot ∧
        BankLostFrom s t slot (keyIn slot s) lost op ∧ t = { s with mem := t.mem, store := t.store, events := t.events }) ∧
    (s.store.state = .mirrored ∨ (s.store.state = .rebuilding ∧ slot < s.store.rebuildCursor) →
      (s.copy p slot).stuck = true → (s.copy q slot).stuck = true →
      ∃ t, writeBody op slot r s = .failed t ∧ t.copy p slot = failedCopy (s.copy p slot) ∧
        t.copy q slot = failedCopy (s.copy q slot) ∧ OtherCopiesKept s t [.A, .B] slot ∧
        FailedFrom s t slot (keyIn slot s) none op) ∧
    (s.store.state = .single ∨ s.store.state = .degraded ∨
        (s.store.state = .rebuilding ∧ s.store.rebuildCursor ≤ slot) → (s.copy p slot).stuck = true →
      ∃ t, writeBody op slot r s = .failed t ∧ t.copy p slot = failedCopy (s.copy p slot) ∧
        OtherCopiesKept s t [p] slot ∧ FailedFrom s t slot (keyIn slot s) (some p) op) ∧
    (s.store.state = .rebuilding → slot < s.store.rebuildCursor → (s.copy p slot).stuck = true →
      (s.copy q slot).stuck = false →
      ∃ t, writeBody op slot r s = .failed t ∧ t.copy p slot = failedCopy (s.copy p slot) ∧
        t.copy q slot = goodCopy r ∧ OtherCopiesKept s t [.A, .B] slot ∧
        FailedFrom s t slot (keyIn slot s) (some p) op) ∧
    (∀ origin, s.store.state = .rebuilding → slot < s.store.rebuildCursor → s.store.origin = some origin →
      (s.copy p slot).stuck = false → (s.copy q slot).stuck = true →
      ∃ t, writeBody op slot r s = .stored t ∧ t.copy p slot = goodCopy r ∧
        t.copy q slot = failedCopy (s.copy q slot) ∧ OtherCopiesKept s t [.A, .B] slot ∧
        t.store = { s.store with state := origin, origin := none } ∧
        t.events = { s.events with
          sticky := s.events.sticky ||| 0x040
          firstError := s.events.firstError.or
            (some (captureAt .rebuildFailed slot (keyIn slot s) (some q) op s)) } ∧
        t.arb = { s.arb with waiting := { s.arb.waiting with copier := false } } ∧
        t = { s with mem := t.mem, store := t.store, events := t.events, arb := t.arb, sweep := t.sweep })) ∧
  (∀ (s : State) (key slot : Nat) (lost : Bank), GrantBegun .command (some slot) key s →
    s.cmd = some (.add key slot) → s.store.state = .mirrored → s.dir.isOpen = true → slot < 256 →
    (s.copy lost slot).stuck = true → (s.copy (otherBank lost) slot).stuck = false →
    (∀ e ∈ s.dir.order, e.key ≠ s.stagedKey) → (∀ e ∈ s.dir.order, e.slot ≠ slot) →
    ∃ t, exec (.addGrant .whole) s = .next t ∧ t.cmd = none ∧ t.port.lastResult = .ok ∧
      t.dir = { s.dir with order := insertEntry (entryOf s.stagedBody slot) s.dir.order } ∧
      t.copy (otherBank lost) slot = goodCopy s.stagedBody ∧ t.store.state = .degraded ∧
      t.store.primary = otherBank lost ∧ t.store.failedBank = some lost) ∧
  (∀ (s : State) (key slot rank : Nat) (r : RecordBody) (old : Entry) (origin : StoreState),
    GrantBegun .command (some slot) key s → s.cmd = some (.amend key slot rank) → s.store.state = .rebuilding →
    slot < s.store.rebuildCursor → s.store.origin = some origin → s.dir.isOpen = true →
    PrimaryHolds s slot r → (s.copy s.store.primary slot).stuck = false →
    (s.copy (otherBank s.store.primary) slot).stuck = true →
    (s.dir.order.find? fun x => x.key == key && x.slot == slot) = some old →
    let new : Entry := { entryOf (s.amended r) slot with key := key, slot := slot }
    ∃ t, exec (.amendGrant .whole) s = .next t ∧ t.cmd = none ∧ t.port.lastResult = .ok ∧
      t.dir = { s.dir with
        order := insertEntry new (s.dir.order.filter fun x => !(x.key == key && x.slot == slot)) } ∧
      t.copy s.store.primary slot = goodCopy (s.amended r) ∧
      t.store = { s.store with state := origin, origin := none })

/-! ## Parameters, silence, events -/

/-- SET PARAMETER stores a value that is in range and makes its owner act: P3 restarts the silence count; P8 and P9
put the sweep cursor at P8 and, while a sweep grant is in progress, mark it as set anew, so that the step leaves it;
a request that only waits is not marked (the model's reading of R144 and R146: DEDUCED, log 24); the others but P5 and
P6 do nothing more; a value out of range ends FIELD_RANGE (R158, R159, R146). SET PARAMETER
naming P6 starts and stops the sweep where the store state lets it run, and naming P5 moves the notice phrase's
reference, the take before the release, in the step that accepts the command (DESIGN CHOICE, log 21); naming the value
that P5 holds while its phrase is DEFINED moves nothing (R53, R143, R146). -/
def Obligations.SetParameterStoresTheValueAndActs : Prop :=
  (∀ (s : State) (n v : Nat), CommandReady 0x28 s → s.place 0 = n → s.word 1 = v →
     let stored := { portTaken s.port with lastResult := .ok, params := s.params.put n v }
     (paramInRange n v = false →
       exec .setParameter s = .next (s.onlyPort { portTaken s.port with lastResult := .fieldRange })) ∧
     (paramInRange n v = true → n ∈ [0, 1, 2, 4, 7, 10] → exec .setParameter s = .next (s.onlyPort stored)) ∧
     (paramInRange n v = true → n = 3 →
       exec .setParameter s = .next (s.onlyPort { stored with silence := 0, stale := false })) ∧
     (paramInRange n v = true → n = 8 ∨ n = 9 →
       exec .setParameter s = .next { s with
         port := stored
         sweep := { s.sweep with
           cursor := (s.params.put n v).sweepFirst, setAnew := (s.grantOf .sweep).isSome } })) ∧
  (∀ (s : State) (n v : Nat), CommandReady 0x28 s → s.place 0 = n → s.word 1 = v →
     let stored := { portTaken s.port with lastResult := .ok, params := s.params.put n v }
     (n = 6 → v = 1 → s.params.sweepEnable = 0 → sweepRunsIn s.store.state = true →
       exec .setParameter s = .next
         { s with port := stored, sweep := { s.sweep with timer := some s.params.sweepInterval } }) ∧
     (n = 6 → v = 1 → s.params.sweepEnable = 0 → sweepRunsIn s.store.state = false →
       exec .setParameter s = .next (s.onlyPort stored)) ∧
     (n = 6 → v = 0 → s.params.sweepEnable = 1 →
       exec .setParameter s = .next
         { s with port := stored, sweep := { s.sweep with timer := none },
                  arb := { s.arb with waiting := s.arb.waiting.put .sweep false } }) ∧
     (n = 6 → v ≤ 1 → s.params.sweepEnable = v → exec .setParameter s = .next (s.onlyPort stored)) ∧
     (n = 5 → 1 ≤ v → v ≤ 63 → v ≠ s.params.noticePhrase → PhraseDefined s v →
       exec .setParameter s = .next { s with
         port := stored
         phrases := (if s.params.noticePhrase = 0 then takePhrase v s
           else releasePhrase s.params.noticePhrase (takePhrase v s)).phrases
         events := (if s.params.noticePhrase = 0 then s
           else releasePhrase s.params.noticePhrase (takePhrase v s)).events }) ∧
     (n = 5 → 1 ≤ v → v ≤ 63 → v = s.params.noticePhrase → PhraseDefined s v →
       exec .setParameter s = .next (s.onlyPort stored)) ∧
     (n = 5 → 1 ≤ v → v ≤ 63 → (s.phrase v).state = .retiring →
       exec .setParameter s = .next (s.onlyPort { portTaken s.port with lastResult := .phraseRetiring })) ∧
     (n = 5 → v = 0 →
       exec .setParameter s = .next { s with
         port := stored
         phrases := (if s.params.noticePhrase = 0 then s else releasePhrase s.params.noticePhrase s).phrases
         events := (if s.params.noticePhrase = 0 then s else releasePhrase s.params.noticePhrase s).events }))

/-- CLEAR EVENTS clears the sticky flags named and no other; a set that names more than kinds 0 to 11 ends FIELD_RANGE
(R166). READ CAPTURE reports the capture named, and CLEAR CAPTURE empties the
captures named; a choice outside the codes ends FIELD_RANGE (R169). -/
def Obligations.EventAndCaptureCommands : Prop :=
  (∀ s : State,
     (CommandReady 0x31 s → s.word 0 < 4096 →
       exec .clearEvents s = .next { s with
         port := { portTaken s.port with lastResult := .ok }
         events := { s.events with sticky := s.events.sticky &&& ~~~(BitVec.ofNat 12 (s.word 0)) } }) ∧
     (CommandReady 0x31 s → 4096 ≤ s.word 0 →
       exec .clearEvents s = .next (s.onlyPort { portTaken s.port with lastResult := .fieldRange }))) ∧
  (∀ s : State,
     (CommandReady 0x32 s → s.place 0 = 0 →
       exec .readCapture s = .next (s.onlyPort (portAfter s.port .ok (some (captureBytes s.events.firstFatal)) false))) ∧
     (CommandReady 0x32 s → s.place 0 = 1 →
       exec .readCapture s = .next (s.onlyPort (portAfter s.port .ok (some (captureBytes s.events.firstError)) false))) ∧
     (CommandReady 0x32 s → 2 ≤ s.place 0 →
       exec .readCapture s = .next (s.onlyPort { portTaken s.port with lastResult := .fieldRange })) ∧
     (CommandReady 0x33 s → s.place 0 ≤ 2 →
       exec .clearCapture s = .next { s with
         port := { portTaken s.port with lastResult := .ok }
         events := { s.events with
           firstFatal := if s.place 0 = 1 then s.events.firstFatal else none
           firstError := if s.place 0 = 0 then s.events.firstError else none } }) ∧
     (CommandReady 0x33 s → 3 ≤ s.place 0 →
       exec .clearCapture s = .next (s.onlyPort { portTaken s.port with lastResult := .fieldRange })))

/-- ATTN is asserted exactly while some set flag has its attention enable on, and FAULT exactly while some set flag has
its fault enable on. SET MASKS replaces both masks whole and keeps the flags, or ends FIELD_RANGE when a set names more
than kinds 0 to 11. After a full reset the attention mask holds all kinds and the fault mask STORE_FAILED and STALE;
RESTART keeps both (R165). -/
def Obligations.LinesFollowFlagsUnderMasks : Prop :=
  (∀ s : State,
    (s.attn = true ↔ ∃ k : EventKind, s.flags.getLsbD k.number = true ∧ s.events.attention.getLsbD k.number = true) ∧
    (s.faultLine = true ↔ ∃ k : EventKind, s.flags.getLsbD k.number = true ∧ s.events.fault.getLsbD k.number = true)) ∧
  (∀ s : State,
     (CommandReady 0x34 s → s.word 2 < 4096 → s.word 4 < 4096 →
       exec .setMasks s = .next { s with
         port := { portTaken s.port with lastResult := .ok }
         events := { s.events with attention := BitVec.ofNat 12 (s.word 2), fault := BitVec.ofNat 12 (s.word 4) } }) ∧
     (CommandReady 0x34 s → (4096 ≤ s.word 2 ∨ 4096 ≤ s.word 4) →
       exec .setMasks s = .next (s.onlyPort { portTaken s.port with lastResult := .fieldRange }))) ∧
  (∀ k : EventKind, State.reset.events.attention.getLsbD k.number = true ∧
    (State.reset.events.fault.getLsbD k.number = true ↔ k = .storeFailed ∨ k = .stale)) ∧
  (∀ s : State, CommandReady 0x3F s → ∃ t, exec .restart s = .next t ∧
    t.events.attention = s.events.attention ∧ t.events.fault = s.events.fault)

/-- A filled capture is not changed until it is emptied, and only a CLEAR CAPTURE that names it, RESTART or a full
reset empties it: after any step a filled capture holds what it held, or nothing, and nothing only where the row at
the front of the queue gave a full reset, or its strobe ended, with the part awake and BUSY clear, the write of byte
0x3F, or of 0x33 with staging naming the capture (R167, R169). -/
def Obligations.FilledCaptureIsKept : Prop :=
  ∀ (s t : State) (c : Capture), step s = .next t →
    let emptiedBy (choices : List Nat) := ∃ i q, s.pending = i :: q ∧
      (GivesFullReset i s ∨ (s.inReset = false ∧ s.cmd = none ∧
        (commandWritten i s = some 0x3F ∨ (commandWritten i s = some 0x33 ∧ s.place 0 ∈ choices))))
    (s.events.firstFatal = some c →
      t.events.firstFatal = some c ∨ (t.events.firstFatal = none ∧ emptiedBy [0, 2])) ∧
    (s.events.firstError = some c →
      t.events.firstError = some c ∨ (t.events.firstError = none ∧ emptiedBy [1, 2]))

/-! ## Board Links -/

/-- Every frame sums to 0 modulo 256 with its check byte, and its first byte is its length (R174, R175). On the FRAME
line a byte is ten bit times: a low start bit, the eight data bits least significant first, a high stop bit; the line
is high where no byte is sent (R113). -/
def Obligations.FramesCarryTheirLengthAndCheck : Prop :=
  (∀ r : Row, ((rowFrame r).foldr (fun b acc => b + acc) (0 : Byte) = 0) ∧
      ((rowFrame r).length ≤ 255 → (rowFrame r).head? = some (byteOf (rowFrame r).length)) ∧
      (r.content = .blank → (rowFrame r).length = 5) ∧
      (∀ text, r.content = .notice text → (rowFrame r).length = 6 + text.length) ∧
      (∀ q, r.content = .record q → (rowFrame r).length =
        17 + q.destinationText.length + (q.viaText.getD []).length + q.body.attributes.length)) ∧
  (∀ (l : Link) (n : Nat) (b : Byte), l.frame[n]? = some b →
    l.frameLevel (10 * n) = false ∧ (∀ k < 8, l.frameLevel (10 * n + 1 + k) = b.getLsbD k) ∧
      l.frameLevel (10 * n + 9) = true) ∧
  (∀ (l : Link) (n : Nat), 10 * l.frame.length ≤ n → l.frameLevel n = true)

/-- Frame end starts the take timer at the view's take limit; TAKE empties the slot and the link is IDLE, or, with a
parked row, sends that row at once and the PARKED view takes its resume action's state (R88, R103, R104). -/
def Obligations.FrameEndAndTakeMoveTheRows : Prop :=
  ∀ (s : State) (n : Fin 4), s.inReset = false →
    ((s.link n).state = .sending →
      exec (.frameEnd n) s = .next (s.setLink n { s.link n with
        state := .awaitTake, frame := [], takeTimer := some (s.view n).config.takeLimit })) ∧
    ((s.link n).state = .awaitTake → (s.link n).parked = none →
      exec (.take n) s = .next (s.setLink n { s.link n with state := .idle, slot := none, takeTimer := none })) ∧
    (∀ row r, (s.link n).state = .awaitTake → (s.link n).parked = some row → (s.view n).resume = some r →
      exec (.take n) s = .next ((s.setLink n { s.link n with
          state := .sending, slot := some row, parked := none, frame := rowFrame row, takeTimer := none }).setView n
        (match r with
          | .goOn => { s.view n with state := .running, resume := none }
          | .rest => { s.view n with
              state := .resting, resume := none, refreshTimer := some (s.view n).config.refresh }
          | .step => { s.view n with state := .stepWait, resume := none }
          | .finish => { s.view n with state := .idle, resume := none }))) ∧
    ((s.link n).state ≠ .awaitTake → exec (.take n) s = .next s)

/-- The take timer's expiry makes the link LOST without its rows and its view HALTED, abandons the view's composition,
raises LINK_LOST with the link, and touches no other link or view (R93, R106). The abandoned composition's waiting
request is dropped and the composer free, or its grant runs on to its end; the other requests, the grant in progress
and the disturbances that wait for its end stay (R92). -/
def Obligations.LinkLossHaltsItsView : Prop :=
  ∀ (s : State) (n : Fin 4), s.inReset = false → (s.link n).state = .awaitTake →
    ∃ t, exec (.linkLost n) s = .next t ∧
      t.link n = { s.link n with state := .lost, slot := none, parked := none, takeTimer := none } ∧
      t.view n = { s.view n with state := .halted, refreshTimer := none, resume := none } ∧ ¬ ComposingFor n t ∧
      (∀ u, u ≠ n → t.link u = s.link u ∧ t.view u = s.view u ∧ (ComposingFor u t ↔ ComposingFor u s)) ∧
      t.events.sticky = s.events.sticky ||| 0x400 ∧
      (s.events.firstError = none → t.events.firstError = some
        { kind := .linkLost, minute := s.captureMinute, slot := none, key := none, bank := none, link := some n,
          operation := .link }) ∧
      t.cmd = s.cmd ∧ t.port = s.port ∧ t.dir = s.dir ∧ t.mem = s.mem ∧ t.store = s.store ∧ t.clock = s.clock ∧
      t.retire = s.retire ∧ t.phrases = s.phrases ∧ t.sweep = s.sweep ∧ t.arb.held = s.arb.held ∧ AbandonedFor n s t ∧
      t.pending = s.pending ∧ t.inReset = s.inReset

/-- A rising edge of ADVANCE starts the hold count from 0 and is handed to the view, which acts on it in STEP_WAIT
alone; a release sets the hold timer to 0 (R90, R108). -/
def Obligations.AdvanceEdgesReachTheView : Prop :=
  ∀ (s : State) (n : Fin 4), s.inReset = false →
    let risen := s.setLink n { s.link n with line := true, advance := true, holdTimer := 0, heldAtTick := false }
    ((s.link n).advance = false → (s.view n).state ≠ .stepWait → exec (.advanceRise n) s = .next risen) ∧
    ((s.link n).advance = false → (s.view n).state = .stepWait →
      (s.view n).rowIndex < (s.view n).config.rowCount →
      exec (.advanceRise n) s = .next (risen.setView n { s.view n with state := .running })) ∧
    ((s.link n).advance = false → (s.view n).state = .stepWait →
      (s.view n).rowIndex = (s.view n).config.rowCount → exec (.advanceRise n) s = .next (startPass n risen)) ∧
    exec (.advanceRelease n) s = .next (s.setLink n
      { s.link n with line := false, advance := false, holdTimer := 0, heldAtTick := false })

/-! ## Steps that stop halfway -/

/-- A step that stops at its first part (the model's operand for R79 and R119, log 4) leaves what the same row's whole
step completes to the same state, unless nothing was left to do; a composer's grant that ends in a new search leaves
that search to the composition step. -/
def Obligations.HalfStepsCompleteToWholeSteps : Prop :=
  (∀ row ∈ [Instr.addGrant, Instr.amendGrant, Instr.fetchGrant, Instr.rebaseGrant, Instr.copierStep, Instr.sweepStep,
        Instr.compositionStart],
     ∀ s : State, ∃ m, exec (row .firstPart) s = .next m ∧
       (exec (row .whole) s = .next m ∨ exec (row .whole) m = exec (row .whole) s)) ∧
  (∀ s : State, ∃ m, exec (.composerGrant .firstPart) s = .next m ∧
     (exec (.composerGrant .whole) s = .next m ∨ exec (.composerGrant .whole) m = exec (.composerGrant .whole) s ∨
       exec (.compositionStart .whole) m = exec (.composerGrant .whole) s))

/-! ## What every step keeps -/

/-- The state right after reset obeys every law below. -/
def Obligations.ResetObeysEveryLaw : Prop :=
  MemoryCanonical State.reset ∧ ClockLaw State.reset ∧ ViewsAndLinksLaw State.reset ∧ DirectoryLaw State.reset ∧
    ArbiterLaw State.reset ∧ MirrorLaw State.reset ∧ ReferenceLaw State.reset

/-- Every step keeps Record Memory in its canonical form. -/
def Obligations.StepKeepsMemoryCanonical : Prop :=
  ∀ s t : State, MemoryCanonical s → step s = .next t → MemoryCanonical t

/-- Every step keeps the clock in its ranges and the day-change hold with NEW DAY (R56, R58, R60, R69). -/
def Obligations.StepKeepsClockLaw : Prop :=
  ∀ s t : State, ClockLaw s → step s = .next t → ClockLaw t

/-- Every step keeps each link's state in agreement with its rows, its frame and its take timer, and each view's state
in agreement with its link (R76, R99, R100). -/
def Obligations.StepKeepsViewsAndLinksLaw : Prop :=
  ∀ s t : State, ViewsAndLinksLaw s → step s = .next t → ViewsAndLinksLaw t

/-- Every step keeps the Directory open exactly while the store serves, sorted, and without a key or a slot twice
(R9, R10, R11, R14). -/
def Obligations.StepKeepsDirectoryLaw : Prop :=
  ∀ s t : State, DirectoryLaw s → step s = .next t → DirectoryLaw t

/-- Every step keeps the arbiter's law: no request waits while the port is free, and every grant and every waiting
request is one that its requester still makes (R118). -/
def Obligations.StepKeepsArbiterLaw : Prop :=
  ∀ s t : State, ArbiterLaw s → step s = .next t → ArbiterLaw t

/-- Every step keeps the law of R125: the two copies of every live slot hold the same body wherever both can be read,
in MIRRORED and below the rebuild cursor. -/
def Obligations.StepKeepsMirroredCopies : Prop :=
  ∀ s t : State, MemoryCanonical s → DirectoryLaw s → ArbiterLaw s → MirrorLaw s → step s = .next t → MirrorLaw t

/-- Every step keeps the law of the Phrase Table: each phrase's count is the number of entries' destinations and vias
that name it and one for P5, a FREE phrase has count 0 and a RETIRING one at least 1 (R43 to R45); and with it what
the law rests on: entries agree with the bodies they copy (R7), a command in flight has what its tests found (R15,
R24, R51), and the copier's slot query names the record of its slot (R134). -/
def Obligations.StepKeepsReferenceLaw : Prop :=
  ∀ s t : State, MemoryCanonical s → DirectoryLaw s → ArbiterLaw s → ReferenceLaw s → step s = .next t → ReferenceLaw t
end

