-- ==== Sys2Proof/Laws/State.lean ====
section
/-!
SUPPORT. What each setter leaves in each field of the state: the written field takes the value, the others stay.
-/

namespace Sys2Proof.Machine

/-! ## Four elements at once -/

@[simp] theorem mapFour_getElem {α : Type} (f : α → α) (v : Vector α 4) (n : Nat) (h : n < 4) :
    (mapFour f v)[n] = f v[n] := by simp [mapFour]

/-! ## setInReset -/

@[simp] theorem State.setInReset_pending (s : State) (v : Bool) : (s.setInReset v).pending = s.pending := rfl
@[simp] theorem State.setInReset_inReset (s : State) (v : Bool) : (s.setInReset v).inReset = v := rfl
@[simp] theorem State.setInReset_port (s : State) (v : Bool) : (s.setInReset v).port = s.port := rfl
@[simp] theorem State.setInReset_cmd (s : State) (v : Bool) : (s.setInReset v).cmd = s.cmd := rfl
@[simp] theorem State.setInReset_dir (s : State) (v : Bool) : (s.setInReset v).dir = s.dir := rfl
@[simp] theorem State.setInReset_mem (s : State) (v : Bool) : (s.setInReset v).mem = s.mem := rfl
@[simp] theorem State.setInReset_store (s : State) (v : Bool) : (s.setInReset v).store = s.store := rfl
@[simp] theorem State.setInReset_arb (s : State) (v : Bool) : (s.setInReset v).arb = s.arb := rfl
@[simp] theorem State.setInReset_sweep (s : State) (v : Bool) : (s.setInReset v).sweep = s.sweep := rfl
@[simp] theorem State.setInReset_phrases (s : State) (v : Bool) : (s.setInReset v).phrases = s.phrases := rfl
@[simp] theorem State.setInReset_clock (s : State) (v : Bool) : (s.setInReset v).clock = s.clock := rfl
@[simp] theorem State.setInReset_retire (s : State) (v : Bool) : (s.setInReset v).retire = s.retire := rfl
@[simp] theorem State.setInReset_views (s : State) (v : Bool) : (s.setInReset v).views = s.views := rfl
@[simp] theorem State.setInReset_composer (s : State) (v : Bool) : (s.setInReset v).composer = s.composer := rfl
@[simp] theorem State.setInReset_links (s : State) (v : Bool) : (s.setInReset v).links = s.links := rfl
@[simp] theorem State.setInReset_events (s : State) (v : Bool) : (s.setInReset v).events = s.events := rfl

/-! ## setPort -/

@[simp] theorem State.setPort_pending (s : State) (v : ControlPort) : (s.setPort v).pending = s.pending := rfl
@[simp] theorem State.setPort_inReset (s : State) (v : ControlPort) : (s.setPort v).inReset = s.inReset := rfl
@[simp] theorem State.setPort_port (s : State) (v : ControlPort) : (s.setPort v).port = v := rfl
@[simp] theorem State.setPort_cmd (s : State) (v : ControlPort) : (s.setPort v).cmd = s.cmd := rfl
@[simp] theorem State.setPort_dir (s : State) (v : ControlPort) : (s.setPort v).dir = s.dir := rfl
@[simp] theorem State.setPort_mem (s : State) (v : ControlPort) : (s.setPort v).mem = s.mem := rfl
@[simp] theorem State.setPort_store (s : State) (v : ControlPort) : (s.setPort v).store = s.store := rfl
@[simp] theorem State.setPort_arb (s : State) (v : ControlPort) : (s.setPort v).arb = s.arb := rfl
@[simp] theorem State.setPort_sweep (s : State) (v : ControlPort) : (s.setPort v).sweep = s.sweep := rfl
@[simp] theorem State.setPort_phrases (s : State) (v : ControlPort) : (s.setPort v).phrases = s.phrases := rfl
@[simp] theorem State.setPort_clock (s : State) (v : ControlPort) : (s.setPort v).clock = s.clock := rfl
@[simp] theorem State.setPort_retire (s : State) (v : ControlPort) : (s.setPort v).retire = s.retire := rfl
@[simp] theorem State.setPort_views (s : State) (v : ControlPort) : (s.setPort v).views = s.views := rfl
@[simp] theorem State.setPort_composer (s : State) (v : ControlPort) : (s.setPort v).composer = s.composer := rfl
@[simp] theorem State.setPort_links (s : State) (v : ControlPort) : (s.setPort v).links = s.links := rfl
@[simp] theorem State.setPort_events (s : State) (v : ControlPort) : (s.setPort v).events = s.events := rfl

/-! ## setCmd -/

@[simp] theorem State.setCmd_pending (s : State) (v : Option InFlight) : (s.setCmd v).pending = s.pending := rfl
@[simp] theorem State.setCmd_inReset (s : State) (v : Option InFlight) : (s.setCmd v).inReset = s.inReset := rfl
@[simp] theorem State.setCmd_port (s : State) (v : Option InFlight) : (s.setCmd v).port = s.port := rfl
@[simp] theorem State.setCmd_cmd (s : State) (v : Option InFlight) : (s.setCmd v).cmd = v := rfl
@[simp] theorem State.setCmd_dir (s : State) (v : Option InFlight) : (s.setCmd v).dir = s.dir := rfl
@[simp] theorem State.setCmd_mem (s : State) (v : Option InFlight) : (s.setCmd v).mem = s.mem := rfl
@[simp] theorem State.setCmd_store (s : State) (v : Option InFlight) : (s.setCmd v).store = s.store := rfl
@[simp] theorem State.setCmd_arb (s : State) (v : Option InFlight) : (s.setCmd v).arb = s.arb := rfl
@[simp] theorem State.setCmd_sweep (s : State) (v : Option InFlight) : (s.setCmd v).sweep = s.sweep := rfl
@[simp] theorem State.setCmd_phrases (s : State) (v : Option InFlight) : (s.setCmd v).phrases = s.phrases := rfl
@[simp] theorem State.setCmd_clock (s : State) (v : Option InFlight) : (s.setCmd v).clock = s.clock := rfl
@[simp] theorem State.setCmd_retire (s : State) (v : Option InFlight) : (s.setCmd v).retire = s.retire := rfl
@[simp] theorem State.setCmd_views (s : State) (v : Option InFlight) : (s.setCmd v).views = s.views := rfl
@[simp] theorem State.setCmd_composer (s : State) (v : Option InFlight) : (s.setCmd v).composer = s.composer := rfl
@[simp] theorem State.setCmd_links (s : State) (v : Option InFlight) : (s.setCmd v).links = s.links := rfl
@[simp] theorem State.setCmd_events (s : State) (v : Option InFlight) : (s.setCmd v).events = s.events := rfl

/-! ## setDir -/

@[simp] theorem State.setDir_pending (s : State) (v : Directory) : (s.setDir v).pending = s.pending := rfl
@[simp] theorem State.setDir_inReset (s : State) (v : Directory) : (s.setDir v).inReset = s.inReset := rfl
@[simp] theorem State.setDir_port (s : State) (v : Directory) : (s.setDir v).port = s.port := rfl
@[simp] theorem State.setDir_cmd (s : State) (v : Directory) : (s.setDir v).cmd = s.cmd := rfl
@[simp] theorem State.setDir_dir (s : State) (v : Directory) : (s.setDir v).dir = v := rfl
@[simp] theorem State.setDir_mem (s : State) (v : Directory) : (s.setDir v).mem = s.mem := rfl
@[simp] theorem State.setDir_store (s : State) (v : Directory) : (s.setDir v).store = s.store := rfl
@[simp] theorem State.setDir_arb (s : State) (v : Directory) : (s.setDir v).arb = s.arb := rfl
@[simp] theorem State.setDir_sweep (s : State) (v : Directory) : (s.setDir v).sweep = s.sweep := rfl
@[simp] theorem State.setDir_phrases (s : State) (v : Directory) : (s.setDir v).phrases = s.phrases := rfl
@[simp] theorem State.setDir_clock (s : State) (v : Directory) : (s.setDir v).clock = s.clock := rfl
@[simp] theorem State.setDir_retire (s : State) (v : Directory) : (s.setDir v).retire = s.retire := rfl
@[simp] theorem State.setDir_views (s : State) (v : Directory) : (s.setDir v).views = s.views := rfl
@[simp] theorem State.setDir_composer (s : State) (v : Directory) : (s.setDir v).composer = s.composer := rfl
@[simp] theorem State.setDir_links (s : State) (v : Directory) : (s.setDir v).links = s.links := rfl
@[simp] theorem State.setDir_events (s : State) (v : Directory) : (s.setDir v).events = s.events := rfl

/-! ## setMem -/

@[simp] theorem State.setMem_pending (s : State) (v : RecordMemory) : (s.setMem v).pending = s.pending := rfl
@[simp] theorem State.setMem_inReset (s : State) (v : RecordMemory) : (s.setMem v).inReset = s.inReset := rfl
@[simp] theorem State.setMem_port (s : State) (v : RecordMemory) : (s.setMem v).port = s.port := rfl
@[simp] theorem State.setMem_cmd (s : State) (v : RecordMemory) : (s.setMem v).cmd = s.cmd := rfl
@[simp] theorem State.setMem_dir (s : State) (v : RecordMemory) : (s.setMem v).dir = s.dir := rfl
@[simp] theorem State.setMem_mem (s : State) (v : RecordMemory) : (s.setMem v).mem = v := rfl
@[simp] theorem State.setMem_store (s : State) (v : RecordMemory) : (s.setMem v).store = s.store := rfl
@[simp] theorem State.setMem_arb (s : State) (v : RecordMemory) : (s.setMem v).arb = s.arb := rfl
@[simp] theorem State.setMem_sweep (s : State) (v : RecordMemory) : (s.setMem v).sweep = s.sweep := rfl
@[simp] theorem State.setMem_phrases (s : State) (v : RecordMemory) : (s.setMem v).phrases = s.phrases := rfl
@[simp] theorem State.setMem_clock (s : State) (v : RecordMemory) : (s.setMem v).clock = s.clock := rfl
@[simp] theorem State.setMem_retire (s : State) (v : RecordMemory) : (s.setMem v).retire = s.retire := rfl
@[simp] theorem State.setMem_views (s : State) (v : RecordMemory) : (s.setMem v).views = s.views := rfl
@[simp] theorem State.setMem_composer (s : State) (v : RecordMemory) : (s.setMem v).composer = s.composer := rfl
@[simp] theorem State.setMem_links (s : State) (v : RecordMemory) : (s.setMem v).links = s.links := rfl
@[simp] theorem State.setMem_events (s : State) (v : RecordMemory) : (s.setMem v).events = s.events := rfl

/-! ## setStore -/

@[simp] theorem State.setStore_pending (s : State) (v : StoreController) : (s.setStore v).pending = s.pending := rfl
@[simp] theorem State.setStore_inReset (s : State) (v : StoreController) : (s.setStore v).inReset = s.inReset := rfl
@[simp] theorem State.setStore_port (s : State) (v : StoreController) : (s.setStore v).port = s.port := rfl
@[simp] theorem State.setStore_cmd (s : State) (v : StoreController) : (s.setStore v).cmd = s.cmd := rfl
@[simp] theorem State.setStore_dir (s : State) (v : StoreController) : (s.setStore v).dir = s.dir := rfl
@[simp] theorem State.setStore_mem (s : State) (v : StoreController) : (s.setStore v).mem = s.mem := rfl
@[simp] theorem State.setStore_store (s : State) (v : StoreController) : (s.setStore v).store = v := rfl
@[simp] theorem State.setStore_arb (s : State) (v : StoreController) : (s.setStore v).arb = s.arb := rfl
@[simp] theorem State.setStore_sweep (s : State) (v : StoreController) : (s.setStore v).sweep = s.sweep := rfl
@[simp] theorem State.setStore_phrases (s : State) (v : StoreController) : (s.setStore v).phrases = s.phrases := rfl
@[simp] theorem State.setStore_clock (s : State) (v : StoreController) : (s.setStore v).clock = s.clock := rfl
@[simp] theorem State.setStore_retire (s : State) (v : StoreController) : (s.setStore v).retire = s.retire := rfl
@[simp] theorem State.setStore_views (s : State) (v : StoreController) : (s.setStore v).views = s.views := rfl
@[simp] theorem State.setStore_composer (s : State) (v : StoreController) : (s.setStore v).composer = s.composer := rfl
@[simp] theorem State.setStore_links (s : State) (v : StoreController) : (s.setStore v).links = s.links := rfl
@[simp] theorem State.setStore_events (s : State) (v : StoreController) : (s.setStore v).events = s.events := rfl

/-! ## setArb -/

@[simp] theorem State.setArb_pending (s : State) (v : Arbiter) : (s.setArb v).pending = s.pending := rfl
@[simp] theorem State.setArb_inReset (s : State) (v : Arbiter) : (s.setArb v).inReset = s.inReset := rfl
@[simp] theorem State.setArb_port (s : State) (v : Arbiter) : (s.setArb v).port = s.port := rfl
@[simp] theorem State.setArb_cmd (s : State) (v : Arbiter) : (s.setArb v).cmd = s.cmd := rfl
@[simp] theorem State.setArb_dir (s : State) (v : Arbiter) : (s.setArb v).dir = s.dir := rfl
@[simp] theorem State.setArb_mem (s : State) (v : Arbiter) : (s.setArb v).mem = s.mem := rfl
@[simp] theorem State.setArb_store (s : State) (v : Arbiter) : (s.setArb v).store = s.store := rfl
@[simp] theorem State.setArb_arb (s : State) (v : Arbiter) : (s.setArb v).arb = v := rfl
@[simp] theorem State.setArb_sweep (s : State) (v : Arbiter) : (s.setArb v).sweep = s.sweep := rfl
@[simp] theorem State.setArb_phrases (s : State) (v : Arbiter) : (s.setArb v).phrases = s.phrases := rfl
@[simp] theorem State.setArb_clock (s : State) (v : Arbiter) : (s.setArb v).clock = s.clock := rfl
@[simp] theorem State.setArb_retire (s : State) (v : Arbiter) : (s.setArb v).retire = s.retire := rfl
@[simp] theorem State.setArb_views (s : State) (v : Arbiter) : (s.setArb v).views = s.views := rfl
@[simp] theorem State.setArb_composer (s : State) (v : Arbiter) : (s.setArb v).composer = s.composer := rfl
@[simp] theorem State.setArb_links (s : State) (v : Arbiter) : (s.setArb v).links = s.links := rfl
@[simp] theorem State.setArb_events (s : State) (v : Arbiter) : (s.setArb v).events = s.events := rfl

/-! ## setSweep -/

@[simp] theorem State.setSweep_pending (s : State) (v : SweepUnit) : (s.setSweep v).pending = s.pending := rfl
@[simp] theorem State.setSweep_inReset (s : State) (v : SweepUnit) : (s.setSweep v).inReset = s.inReset := rfl
@[simp] theorem State.setSweep_port (s : State) (v : SweepUnit) : (s.setSweep v).port = s.port := rfl
@[simp] theorem State.setSweep_cmd (s : State) (v : SweepUnit) : (s.setSweep v).cmd = s.cmd := rfl
@[simp] theorem State.setSweep_dir (s : State) (v : SweepUnit) : (s.setSweep v).dir = s.dir := rfl
@[simp] theorem State.setSweep_mem (s : State) (v : SweepUnit) : (s.setSweep v).mem = s.mem := rfl
@[simp] theorem State.setSweep_store (s : State) (v : SweepUnit) : (s.setSweep v).store = s.store := rfl
@[simp] theorem State.setSweep_arb (s : State) (v : SweepUnit) : (s.setSweep v).arb = s.arb := rfl
@[simp] theorem State.setSweep_sweep (s : State) (v : SweepUnit) : (s.setSweep v).sweep = v := rfl
@[simp] theorem State.setSweep_phrases (s : State) (v : SweepUnit) : (s.setSweep v).phrases = s.phrases := rfl
@[simp] theorem State.setSweep_clock (s : State) (v : SweepUnit) : (s.setSweep v).clock = s.clock := rfl
@[simp] theorem State.setSweep_retire (s : State) (v : SweepUnit) : (s.setSweep v).retire = s.retire := rfl
@[simp] theorem State.setSweep_views (s : State) (v : SweepUnit) : (s.setSweep v).views = s.views := rfl
@[simp] theorem State.setSweep_composer (s : State) (v : SweepUnit) : (s.setSweep v).composer = s.composer := rfl
@[simp] theorem State.setSweep_links (s : State) (v : SweepUnit) : (s.setSweep v).links = s.links := rfl
@[simp] theorem State.setSweep_events (s : State) (v : SweepUnit) : (s.setSweep v).events = s.events := rfl

/-! ## setPhrases -/

@[simp] theorem State.setPhrases_pending (s : State) (v : Vector Phrase 63) : (s.setPhrases v).pending = s.pending := rfl
@[simp] theorem State.setPhrases_inReset (s : State) (v : Vector Phrase 63) : (s.setPhrases v).inReset = s.inReset := rfl
@[simp] theorem State.setPhrases_port (s : State) (v : Vector Phrase 63) : (s.setPhrases v).port = s.port := rfl
@[simp] theorem State.setPhrases_cmd (s : State) (v : Vector Phrase 63) : (s.setPhrases v).cmd = s.cmd := rfl
@[simp] theorem State.setPhrases_dir (s : State) (v : Vector Phrase 63) : (s.setPhrases v).dir = s.dir := rfl
@[simp] theorem State.setPhrases_mem (s : State) (v : Vector Phrase 63) : (s.setPhrases v).mem = s.mem := rfl
@[simp] theorem State.setPhrases_store (s : State) (v : Vector Phrase 63) : (s.setPhrases v).store = s.store := rfl
@[simp] theorem State.setPhrases_arb (s : State) (v : Vector Phrase 63) : (s.setPhrases v).arb = s.arb := rfl
@[simp] theorem State.setPhrases_sweep (s : State) (v : Vector Phrase 63) : (s.setPhrases v).sweep = s.sweep := rfl
@[simp] theorem State.setPhrases_phrases (s : State) (v : Vector Phrase 63) : (s.setPhrases v).phrases = v := rfl
@[simp] theorem State.setPhrases_clock (s : State) (v : Vector Phrase 63) : (s.setPhrases v).clock = s.clock := rfl
@[simp] theorem State.setPhrases_retire (s : State) (v : Vector Phrase 63) : (s.setPhrases v).retire = s.retire := rfl
@[simp] theorem State.setPhrases_views (s : State) (v : Vector Phrase 63) : (s.setPhrases v).views = s.views := rfl
@[simp] theorem State.setPhrases_composer (s : State) (v : Vector Phrase 63) : (s.setPhrases v).composer = s.composer := rfl
@[simp] theorem State.setPhrases_links (s : State) (v : Vector Phrase 63) : (s.setPhrases v).links = s.links := rfl
@[simp] theorem State.setPhrases_events (s : State) (v : Vector Phrase 63) : (s.setPhrases v).events = s.events := rfl

/-! ## setClock -/

@[simp] theorem State.setClock_pending (s : State) (v : ServiceClock) : (s.setClock v).pending = s.pending := rfl
@[simp] theorem State.setClock_inReset (s : State) (v : ServiceClock) : (s.setClock v).inReset = s.inReset := rfl
@[simp] theorem State.setClock_port (s : State) (v : ServiceClock) : (s.setClock v).port = s.port := rfl
@[simp] theorem State.setClock_cmd (s : State) (v : ServiceClock) : (s.setClock v).cmd = s.cmd := rfl
@[simp] theorem State.setClock_dir (s : State) (v : ServiceClock) : (s.setClock v).dir = s.dir := rfl
@[simp] theorem State.setClock_mem (s : State) (v : ServiceClock) : (s.setClock v).mem = s.mem := rfl
@[simp] theorem State.setClock_store (s : State) (v : ServiceClock) : (s.setClock v).store = s.store := rfl
@[simp] theorem State.setClock_arb (s : State) (v : ServiceClock) : (s.setClock v).arb = s.arb := rfl
@[simp] theorem State.setClock_sweep (s : State) (v : ServiceClock) : (s.setClock v).sweep = s.sweep := rfl
@[simp] theorem State.setClock_phrases (s : State) (v : ServiceClock) : (s.setClock v).phrases = s.phrases := rfl
@[simp] theorem State.setClock_clock (s : State) (v : ServiceClock) : (s.setClock v).clock = v := rfl
@[simp] theorem State.setClock_retire (s : State) (v : ServiceClock) : (s.setClock v).retire = s.retire := rfl
@[simp] theorem State.setClock_views (s : State) (v : ServiceClock) : (s.setClock v).views = s.views := rfl
@[simp] theorem State.setClock_composer (s : State) (v : ServiceClock) : (s.setClock v).composer = s.composer := rfl
@[simp] theorem State.setClock_links (s : State) (v : ServiceClock) : (s.setClock v).links = s.links := rfl
@[simp] theorem State.setClock_events (s : State) (v : ServiceClock) : (s.setClock v).events = s.events := rfl

/-! ## setRetire -/

@[simp] theorem State.setRetire_pending (s : State) (v : RetirementUnit) : (s.setRetire v).pending = s.pending := rfl
@[simp] theorem State.setRetire_inReset (s : State) (v : RetirementUnit) : (s.setRetire v).inReset = s.inReset := rfl
@[simp] theorem State.setRetire_port (s : State) (v : RetirementUnit) : (s.setRetire v).port = s.port := rfl
@[simp] theorem State.setRetire_cmd (s : State) (v : RetirementUnit) : (s.setRetire v).cmd = s.cmd := rfl
@[simp] theorem State.setRetire_dir (s : State) (v : RetirementUnit) : (s.setRetire v).dir = s.dir := rfl
@[simp] theorem State.setRetire_mem (s : State) (v : RetirementUnit) : (s.setRetire v).mem = s.mem := rfl
@[simp] theorem State.setRetire_store (s : State) (v : RetirementUnit) : (s.setRetire v).store = s.store := rfl
@[simp] theorem State.setRetire_arb (s : State) (v : RetirementUnit) : (s.setRetire v).arb = s.arb := rfl
@[simp] theorem State.setRetire_sweep (s : State) (v : RetirementUnit) : (s.setRetire v).sweep = s.sweep := rfl
@[simp] theorem State.setRetire_phrases (s : State) (v : RetirementUnit) : (s.setRetire v).phrases = s.phrases := rfl
@[simp] theorem State.setRetire_clock (s : State) (v : RetirementUnit) : (s.setRetire v).clock = s.clock := rfl
@[simp] theorem State.setRetire_retire (s : State) (v : RetirementUnit) : (s.setRetire v).retire = v := rfl
@[simp] theorem State.setRetire_views (s : State) (v : RetirementUnit) : (s.setRetire v).views = s.views := rfl
@[simp] theorem State.setRetire_composer (s : State) (v : RetirementUnit) : (s.setRetire v).composer = s.composer := rfl
@[simp] theorem State.setRetire_links (s : State) (v : RetirementUnit) : (s.setRetire v).links = s.links := rfl
@[simp] theorem State.setRetire_events (s : State) (v : RetirementUnit) : (s.setRetire v).events = s.events := rfl

/-! ## setViews -/

@[simp] theorem State.setViews_pending (s : State) (v : Vector View 4) : (s.setViews v).pending = s.pending := rfl
@[simp] theorem State.setViews_inReset (s : State) (v : Vector View 4) : (s.setViews v).inReset = s.inReset := rfl
@[simp] theorem State.setViews_port (s : State) (v : Vector View 4) : (s.setViews v).port = s.port := rfl
@[simp] theorem State.setViews_cmd (s : State) (v : Vector View 4) : (s.setViews v).cmd = s.cmd := rfl
@[simp] theorem State.setViews_dir (s : State) (v : Vector View 4) : (s.setViews v).dir = s.dir := rfl
@[simp] theorem State.setViews_mem (s : State) (v : Vector View 4) : (s.setViews v).mem = s.mem := rfl
@[simp] theorem State.setViews_store (s : State) (v : Vector View 4) : (s.setViews v).store = s.store := rfl
@[simp] theorem State.setViews_arb (s : State) (v : Vector View 4) : (s.setViews v).arb = s.arb := rfl
@[simp] theorem State.setViews_sweep (s : State) (v : Vector View 4) : (s.setViews v).sweep = s.sweep := rfl
@[simp] theorem State.setViews_phrases (s : State) (v : Vector View 4) : (s.setViews v).phrases = s.phrases := rfl
@[simp] theorem State.setViews_clock (s : State) (v : Vector View 4) : (s.setViews v).clock = s.clock := rfl
@[simp] theorem State.setViews_retire (s : State) (v : Vector View 4) : (s.setViews v).retire = s.retire := rfl
@[simp] theorem State.setViews_views (s : State) (v : Vector View 4) : (s.setViews v).views = v := rfl
@[simp] theorem State.setViews_composer (s : State) (v : Vector View 4) : (s.setViews v).composer = s.composer := rfl
@[simp] theorem State.setViews_links (s : State) (v : Vector View 4) : (s.setViews v).links = s.links := rfl
@[simp] theorem State.setViews_events (s : State) (v : Vector View 4) : (s.setViews v).events = s.events := rfl

/-! ## setComposer -/

@[simp] theorem State.setComposer_pending (s : State) (v : Composer) : (s.setComposer v).pending = s.pending := rfl
@[simp] theorem State.setComposer_inReset (s : State) (v : Composer) : (s.setComposer v).inReset = s.inReset := rfl
@[simp] theorem State.setComposer_port (s : State) (v : Composer) : (s.setComposer v).port = s.port := rfl
@[simp] theorem State.setComposer_cmd (s : State) (v : Composer) : (s.setComposer v).cmd = s.cmd := rfl
@[simp] theorem State.setComposer_dir (s : State) (v : Composer) : (s.setComposer v).dir = s.dir := rfl
@[simp] theorem State.setComposer_mem (s : State) (v : Composer) : (s.setComposer v).mem = s.mem := rfl
@[simp] theorem State.setComposer_store (s : State) (v : Composer) : (s.setComposer v).store = s.store := rfl
@[simp] theorem State.setComposer_arb (s : State) (v : Composer) : (s.setComposer v).arb = s.arb := rfl
@[simp] theorem State.setComposer_sweep (s : State) (v : Composer) : (s.setComposer v).sweep = s.sweep := rfl
@[simp] theorem State.setComposer_phrases (s : State) (v : Composer) : (s.setComposer v).phrases = s.phrases := rfl
@[simp] theorem State.setComposer_clock (s : State) (v : Composer) : (s.setComposer v).clock = s.clock := rfl
@[simp] theorem State.setComposer_retire (s : State) (v : Composer) : (s.setComposer v).retire = s.retire := rfl
@[simp] theorem State.setComposer_views (s : State) (v : Composer) : (s.setComposer v).views = s.views := rfl
@[simp] theorem State.setComposer_composer (s : State) (v : Composer) : (s.setComposer v).composer = v := rfl
@[simp] theorem State.setComposer_links (s : State) (v : Composer) : (s.setComposer v).links = s.links := rfl
@[simp] theorem State.setComposer_events (s : State) (v : Composer) : (s.setComposer v).events = s.events := rfl

/-! ## setLinks -/

@[simp] theorem State.setLinks_pending (s : State) (v : Vector Link 4) : (s.setLinks v).pending = s.pending := rfl
@[simp] theorem State.setLinks_inReset (s : State) (v : Vector Link 4) : (s.setLinks v).inReset = s.inReset := rfl
@[simp] theorem State.setLinks_port (s : State) (v : Vector Link 4) : (s.setLinks v).port = s.port := rfl
@[simp] theorem State.setLinks_cmd (s : State) (v : Vector Link 4) : (s.setLinks v).cmd = s.cmd := rfl
@[simp] theorem State.setLinks_dir (s : State) (v : Vector Link 4) : (s.setLinks v).dir = s.dir := rfl
@[simp] theorem State.setLinks_mem (s : State) (v : Vector Link 4) : (s.setLinks v).mem = s.mem := rfl
@[simp] theorem State.setLinks_store (s : State) (v : Vector Link 4) : (s.setLinks v).store = s.store := rfl
@[simp] theorem State.setLinks_arb (s : State) (v : Vector Link 4) : (s.setLinks v).arb = s.arb := rfl
@[simp] theorem State.setLinks_sweep (s : State) (v : Vector Link 4) : (s.setLinks v).sweep = s.sweep := rfl
@[simp] theorem State.setLinks_phrases (s : State) (v : Vector Link 4) : (s.setLinks v).phrases = s.phrases := rfl
@[simp] theorem State.setLinks_clock (s : State) (v : Vector Link 4) : (s.setLinks v).clock = s.clock := rfl
@[simp] theorem State.setLinks_retire (s : State) (v : Vector Link 4) : (s.setLinks v).retire = s.retire := rfl
@[simp] theorem State.setLinks_views (s : State) (v : Vector Link 4) : (s.setLinks v).views = s.views := rfl
@[simp] theorem State.setLinks_composer (s : State) (v : Vector Link 4) : (s.setLinks v).composer = s.composer := rfl
@[simp] theorem State.setLinks_links (s : State) (v : Vector Link 4) : (s.setLinks v).links = v := rfl
@[simp] theorem State.setLinks_events (s : State) (v : Vector Link 4) : (s.setLinks v).events = s.events := rfl

/-! ## setEvents -/

@[simp] theorem State.setEvents_pending (s : State) (v : EventUnit) : (s.setEvents v).pending = s.pending := rfl
@[simp] theorem State.setEvents_inReset (s : State) (v : EventUnit) : (s.setEvents v).inReset = s.inReset := rfl
@[simp] theorem State.setEvents_port (s : State) (v : EventUnit) : (s.setEvents v).port = s.port := rfl
@[simp] theorem State.setEvents_cmd (s : State) (v : EventUnit) : (s.setEvents v).cmd = s.cmd := rfl
@[simp] theorem State.setEvents_dir (s : State) (v : EventUnit) : (s.setEvents v).dir = s.dir := rfl
@[simp] theorem State.setEvents_mem (s : State) (v : EventUnit) : (s.setEvents v).mem = s.mem := rfl
@[simp] theorem State.setEvents_store (s : State) (v : EventUnit) : (s.setEvents v).store = s.store := rfl
@[simp] theorem State.setEvents_arb (s : State) (v : EventUnit) : (s.setEvents v).arb = s.arb := rfl
@[simp] theorem State.setEvents_sweep (s : State) (v : EventUnit) : (s.setEvents v).sweep = s.sweep := rfl
@[simp] theorem State.setEvents_phrases (s : State) (v : EventUnit) : (s.setEvents v).phrases = s.phrases := rfl
@[simp] theorem State.setEvents_clock (s : State) (v : EventUnit) : (s.setEvents v).clock = s.clock := rfl
@[simp] theorem State.setEvents_retire (s : State) (v : EventUnit) : (s.setEvents v).retire = s.retire := rfl
@[simp] theorem State.setEvents_views (s : State) (v : EventUnit) : (s.setEvents v).views = s.views := rfl
@[simp] theorem State.setEvents_composer (s : State) (v : EventUnit) : (s.setEvents v).composer = s.composer := rfl
@[simp] theorem State.setEvents_links (s : State) (v : EventUnit) : (s.setEvents v).links = s.links := rfl
@[simp] theorem State.setEvents_events (s : State) (v : EventUnit) : (s.setEvents v).events = v := rfl

/-! ## setStaging -/

@[simp] theorem State.setStaging_pending (s : State) (v : Vector Byte 32) : (s.setStaging v).pending = s.pending := rfl
@[simp] theorem State.setStaging_inReset (s : State) (v : Vector Byte 32) : (s.setStaging v).inReset = s.inReset := rfl
@[simp] theorem State.setStaging_port (s : State) (v : Vector Byte 32) : (s.setStaging v).port = { s.port with staging := v } := rfl
@[simp] theorem State.setStaging_cmd (s : State) (v : Vector Byte 32) : (s.setStaging v).cmd = s.cmd := rfl
@[simp] theorem State.setStaging_dir (s : State) (v : Vector Byte 32) : (s.setStaging v).dir = s.dir := rfl
@[simp] theorem State.setStaging_mem (s : State) (v : Vector Byte 32) : (s.setStaging v).mem = s.mem := rfl
@[simp] theorem State.setStaging_store (s : State) (v : Vector Byte 32) : (s.setStaging v).store = s.store := rfl
@[simp] theorem State.setStaging_arb (s : State) (v : Vector Byte 32) : (s.setStaging v).arb = s.arb := rfl
@[simp] theorem State.setStaging_sweep (s : State) (v : Vector Byte 32) : (s.setStaging v).sweep = s.sweep := rfl
@[simp] theorem State.setStaging_phrases (s : State) (v : Vector Byte 32) : (s.setStaging v).phrases = s.phrases := rfl
@[simp] theorem State.setStaging_clock (s : State) (v : Vector Byte 32) : (s.setStaging v).clock = s.clock := rfl
@[simp] theorem State.setStaging_retire (s : State) (v : Vector Byte 32) : (s.setStaging v).retire = s.retire := rfl
@[simp] theorem State.setStaging_views (s : State) (v : Vector Byte 32) : (s.setStaging v).views = s.views := rfl
@[simp] theorem State.setStaging_composer (s : State) (v : Vector Byte 32) : (s.setStaging v).composer = s.composer := rfl
@[simp] theorem State.setStaging_links (s : State) (v : Vector Byte 32) : (s.setStaging v).links = s.links := rfl
@[simp] theorem State.setStaging_events (s : State) (v : Vector Byte 32) : (s.setStaging v).events = s.events := rfl

/-! ## setParams -/

@[simp] theorem State.setParams_pending (s : State) (v : Params) : (s.setParams v).pending = s.pending := rfl
@[simp] theorem State.setParams_inReset (s : State) (v : Params) : (s.setParams v).inReset = s.inReset := rfl
@[simp] theorem State.setParams_port (s : State) (v : Params) : (s.setParams v).port = { s.port with params := v } := rfl
@[simp] theorem State.setParams_cmd (s : State) (v : Params) : (s.setParams v).cmd = s.cmd := rfl
@[simp] theorem State.setParams_dir (s : State) (v : Params) : (s.setParams v).dir = s.dir := rfl
@[simp] theorem State.setParams_mem (s : State) (v : Params) : (s.setParams v).mem = s.mem := rfl
@[simp] theorem State.setParams_store (s : State) (v : Params) : (s.setParams v).store = s.store := rfl
@[simp] theorem State.setParams_arb (s : State) (v : Params) : (s.setParams v).arb = s.arb := rfl
@[simp] theorem State.setParams_sweep (s : State) (v : Params) : (s.setParams v).sweep = s.sweep := rfl
@[simp] theorem State.setParams_phrases (s : State) (v : Params) : (s.setParams v).phrases = s.phrases := rfl
@[simp] theorem State.setParams_clock (s : State) (v : Params) : (s.setParams v).clock = s.clock := rfl
@[simp] theorem State.setParams_retire (s : State) (v : Params) : (s.setParams v).retire = s.retire := rfl
@[simp] theorem State.setParams_views (s : State) (v : Params) : (s.setParams v).views = s.views := rfl
@[simp] theorem State.setParams_composer (s : State) (v : Params) : (s.setParams v).composer = s.composer := rfl
@[simp] theorem State.setParams_links (s : State) (v : Params) : (s.setParams v).links = s.links := rfl
@[simp] theorem State.setParams_events (s : State) (v : Params) : (s.setParams v).events = s.events := rfl

/-! ## strobed -/

@[simp] theorem State.strobed_pending (s : State) (p : Option PendingNibble) (d : Driven) : (s.strobed p d).pending = s.pending := rfl
@[simp] theorem State.strobed_inReset (s : State) (p : Option PendingNibble) (d : Driven) : (s.strobed p d).inReset = s.inReset := rfl
@[simp] theorem State.strobed_port (s : State) (p : Option PendingNibble) (d : Driven) : (s.strobed p d).port = { s.port with pendingNibble := p, driven := d } := rfl
@[simp] theorem State.strobed_cmd (s : State) (p : Option PendingNibble) (d : Driven) : (s.strobed p d).cmd = s.cmd := rfl
@[simp] theorem State.strobed_dir (s : State) (p : Option PendingNibble) (d : Driven) : (s.strobed p d).dir = s.dir := rfl
@[simp] theorem State.strobed_mem (s : State) (p : Option PendingNibble) (d : Driven) : (s.strobed p d).mem = s.mem := rfl
@[simp] theorem State.strobed_store (s : State) (p : Option PendingNibble) (d : Driven) : (s.strobed p d).store = s.store := rfl
@[simp] theorem State.strobed_arb (s : State) (p : Option PendingNibble) (d : Driven) : (s.strobed p d).arb = s.arb := rfl
@[simp] theorem State.strobed_sweep (s : State) (p : Option PendingNibble) (d : Driven) : (s.strobed p d).sweep = s.sweep := rfl
@[simp] theorem State.strobed_phrases (s : State) (p : Option PendingNibble) (d : Driven) : (s.strobed p d).phrases = s.phrases := rfl
@[simp] theorem State.strobed_clock (s : State) (p : Option PendingNibble) (d : Driven) : (s.strobed p d).clock = s.clock := rfl
@[simp] theorem State.strobed_retire (s : State) (p : Option PendingNibble) (d : Driven) : (s.strobed p d).retire = s.retire := rfl
@[simp] theorem State.strobed_views (s : State) (p : Option PendingNibble) (d : Driven) : (s.strobed p d).views = s.views := rfl
@[simp] theorem State.strobed_composer (s : State) (p : Option PendingNibble) (d : Driven) : (s.strobed p d).composer = s.composer := rfl
@[simp] theorem State.strobed_links (s : State) (p : Option PendingNibble) (d : Driven) : (s.strobed p d).links = s.links := rfl
@[simp] theorem State.strobed_events (s : State) (p : Option PendingNibble) (d : Driven) : (s.strobed p d).events = s.events := rfl

/-! ## setView -/

@[simp] theorem State.setView_pending (s : State) (n : Fin 4) (v : View) : (s.setView n v).pending = s.pending := rfl
@[simp] theorem State.setView_inReset (s : State) (n : Fin 4) (v : View) : (s.setView n v).inReset = s.inReset := rfl
@[simp] theorem State.setView_port (s : State) (n : Fin 4) (v : View) : (s.setView n v).port = s.port := rfl
@[simp] theorem State.setView_cmd (s : State) (n : Fin 4) (v : View) : (s.setView n v).cmd = s.cmd := rfl
@[simp] theorem State.setView_dir (s : State) (n : Fin 4) (v : View) : (s.setView n v).dir = s.dir := rfl
@[simp] theorem State.setView_mem (s : State) (n : Fin 4) (v : View) : (s.setView n v).mem = s.mem := rfl
@[simp] theorem State.setView_store (s : State) (n : Fin 4) (v : View) : (s.setView n v).store = s.store := rfl
@[simp] theorem State.setView_arb (s : State) (n : Fin 4) (v : View) : (s.setView n v).arb = s.arb := rfl
@[simp] theorem State.setView_sweep (s : State) (n : Fin 4) (v : View) : (s.setView n v).sweep = s.sweep := rfl
@[simp] theorem State.setView_phrases (s : State) (n : Fin 4) (v : View) : (s.setView n v).phrases = s.phrases := rfl
@[simp] theorem State.setView_clock (s : State) (n : Fin 4) (v : View) : (s.setView n v).clock = s.clock := rfl
@[simp] theorem State.setView_retire (s : State) (n : Fin 4) (v : View) : (s.setView n v).retire = s.retire := rfl
@[simp] theorem State.setView_views (s : State) (n : Fin 4) (v : View) : (s.setView n v).views = s.views.set n v := rfl
@[simp] theorem State.setView_composer (s : State) (n : Fin 4) (v : View) : (s.setView n v).composer = s.composer := rfl
@[simp] theorem State.setView_links (s : State) (n : Fin 4) (v : View) : (s.setView n v).links = s.links := rfl
@[simp] theorem State.setView_events (s : State) (n : Fin 4) (v : View) : (s.setView n v).events = s.events := rfl

/-! ## setLink -/

@[simp] theorem State.setLink_pending (s : State) (n : Fin 4) (l : Link) : (s.setLink n l).pending = s.pending := rfl
@[simp] theorem State.setLink_inReset (s : State) (n : Fin 4) (l : Link) : (s.setLink n l).inReset = s.inReset := rfl
@[simp] theorem State.setLink_port (s : State) (n : Fin 4) (l : Link) : (s.setLink n l).port = s.port := rfl
@[simp] theorem State.setLink_cmd (s : State) (n : Fin 4) (l : Link) : (s.setLink n l).cmd = s.cmd := rfl
@[simp] theorem State.setLink_dir (s : State) (n : Fin 4) (l : Link) : (s.setLink n l).dir = s.dir := rfl
@[simp] theorem State.setLink_mem (s : State) (n : Fin 4) (l : Link) : (s.setLink n l).mem = s.mem := rfl
@[simp] theorem State.setLink_store (s : State) (n : Fin 4) (l : Link) : (s.setLink n l).store = s.store := rfl
@[simp] theorem State.setLink_arb (s : State) (n : Fin 4) (l : Link) : (s.setLink n l).arb = s.arb := rfl
@[simp] theorem State.setLink_sweep (s : State) (n : Fin 4) (l : Link) : (s.setLink n l).sweep = s.sweep := rfl
@[simp] theorem State.setLink_phrases (s : State) (n : Fin 4) (l : Link) : (s.setLink n l).phrases = s.phrases := rfl
@[simp] theorem State.setLink_clock (s : State) (n : Fin 4) (l : Link) : (s.setLink n l).clock = s.clock := rfl
@[simp] theorem State.setLink_retire (s : State) (n : Fin 4) (l : Link) : (s.setLink n l).retire = s.retire := rfl
@[simp] theorem State.setLink_views (s : State) (n : Fin 4) (l : Link) : (s.setLink n l).views = s.views := rfl
@[simp] theorem State.setLink_composer (s : State) (n : Fin 4) (l : Link) : (s.setLink n l).composer = s.composer := rfl
@[simp] theorem State.setLink_links (s : State) (n : Fin 4) (l : Link) : (s.setLink n l).links = s.links.set n l := rfl
@[simp] theorem State.setLink_events (s : State) (n : Fin 4) (l : Link) : (s.setLink n l).events = s.events := rfl

/-! ## setCopy -/

@[simp] theorem State.setCopy_pending (s : State) (b : Bank) (n : Nat) (c : Copy) : (s.setCopy b n c).pending = s.pending := rfl
@[simp] theorem State.setCopy_inReset (s : State) (b : Bank) (n : Nat) (c : Copy) : (s.setCopy b n c).inReset = s.inReset := rfl
@[simp] theorem State.setCopy_port (s : State) (b : Bank) (n : Nat) (c : Copy) : (s.setCopy b n c).port = s.port := rfl
@[simp] theorem State.setCopy_cmd (s : State) (b : Bank) (n : Nat) (c : Copy) : (s.setCopy b n c).cmd = s.cmd := rfl
@[simp] theorem State.setCopy_dir (s : State) (b : Bank) (n : Nat) (c : Copy) : (s.setCopy b n c).dir = s.dir := rfl
@[simp] theorem State.setCopy_mem (s : State) (b : Bank) (n : Nat) (c : Copy) : (s.setCopy b n c).mem = s.mem.setCopy b n c := rfl
@[simp] theorem State.setCopy_store (s : State) (b : Bank) (n : Nat) (c : Copy) : (s.setCopy b n c).store = s.store := rfl
@[simp] theorem State.setCopy_arb (s : State) (b : Bank) (n : Nat) (c : Copy) : (s.setCopy b n c).arb = s.arb := rfl
@[simp] theorem State.setCopy_sweep (s : State) (b : Bank) (n : Nat) (c : Copy) : (s.setCopy b n c).sweep = s.sweep := rfl
@[simp] theorem State.setCopy_phrases (s : State) (b : Bank) (n : Nat) (c : Copy) : (s.setCopy b n c).phrases = s.phrases := rfl
@[simp] theorem State.setCopy_clock (s : State) (b : Bank) (n : Nat) (c : Copy) : (s.setCopy b n c).clock = s.clock := rfl
@[simp] theorem State.setCopy_retire (s : State) (b : Bank) (n : Nat) (c : Copy) : (s.setCopy b n c).retire = s.retire := rfl
@[simp] theorem State.setCopy_views (s : State) (b : Bank) (n : Nat) (c : Copy) : (s.setCopy b n c).views = s.views := rfl
@[simp] theorem State.setCopy_composer (s : State) (b : Bank) (n : Nat) (c : Copy) : (s.setCopy b n c).composer = s.composer := rfl
@[simp] theorem State.setCopy_links (s : State) (b : Bank) (n : Nat) (c : Copy) : (s.setCopy b n c).links = s.links := rfl
@[simp] theorem State.setCopy_events (s : State) (b : Bank) (n : Nat) (c : Copy) : (s.setCopy b n c).events = s.events := rfl

/-! ## setOrder -/

@[simp] theorem State.setOrder_pending (s : State) (l : List Entry) : (s.setOrder l).pending = s.pending := rfl
@[simp] theorem State.setOrder_inReset (s : State) (l : List Entry) : (s.setOrder l).inReset = s.inReset := rfl
@[simp] theorem State.setOrder_port (s : State) (l : List Entry) : (s.setOrder l).port = s.port := rfl
@[simp] theorem State.setOrder_cmd (s : State) (l : List Entry) : (s.setOrder l).cmd = s.cmd := rfl
@[simp] theorem State.setOrder_dir (s : State) (l : List Entry) : (s.setOrder l).dir = { s.dir with order := l } := rfl
@[simp] theorem State.setOrder_mem (s : State) (l : List Entry) : (s.setOrder l).mem = s.mem := rfl
@[simp] theorem State.setOrder_store (s : State) (l : List Entry) : (s.setOrder l).store = s.store := rfl
@[simp] theorem State.setOrder_arb (s : State) (l : List Entry) : (s.setOrder l).arb = s.arb := rfl
@[simp] theorem State.setOrder_sweep (s : State) (l : List Entry) : (s.setOrder l).sweep = s.sweep := rfl
@[simp] theorem State.setOrder_phrases (s : State) (l : List Entry) : (s.setOrder l).phrases = s.phrases := rfl
@[simp] theorem State.setOrder_clock (s : State) (l : List Entry) : (s.setOrder l).clock = s.clock := rfl
@[simp] theorem State.setOrder_retire (s : State) (l : List Entry) : (s.setOrder l).retire = s.retire := rfl
@[simp] theorem State.setOrder_views (s : State) (l : List Entry) : (s.setOrder l).views = s.views := rfl
@[simp] theorem State.setOrder_composer (s : State) (l : List Entry) : (s.setOrder l).composer = s.composer := rfl
@[simp] theorem State.setOrder_links (s : State) (l : List Entry) : (s.setOrder l).links = s.links := rfl
@[simp] theorem State.setOrder_events (s : State) (l : List Entry) : (s.setOrder l).events = s.events := rfl

/-! ## setWaiting -/

@[simp] theorem State.setWaiting_pending (s : State) (r : Requester) (v : Bool) : (State.setWaiting r v s).pending = s.pending := rfl
@[simp] theorem State.setWaiting_inReset (s : State) (r : Requester) (v : Bool) : (State.setWaiting r v s).inReset = s.inReset := rfl
@[simp] theorem State.setWaiting_port (s : State) (r : Requester) (v : Bool) : (State.setWaiting r v s).port = s.port := rfl
@[simp] theorem State.setWaiting_cmd (s : State) (r : Requester) (v : Bool) : (State.setWaiting r v s).cmd = s.cmd := rfl
@[simp] theorem State.setWaiting_dir (s : State) (r : Requester) (v : Bool) : (State.setWaiting r v s).dir = s.dir := rfl
@[simp] theorem State.setWaiting_mem (s : State) (r : Requester) (v : Bool) : (State.setWaiting r v s).mem = s.mem := rfl
@[simp] theorem State.setWaiting_store (s : State) (r : Requester) (v : Bool) : (State.setWaiting r v s).store = s.store := rfl
@[simp] theorem State.setWaiting_arb (s : State) (r : Requester) (v : Bool) : (State.setWaiting r v s).arb = { s.arb with waiting := s.arb.waiting.put r v } := rfl
@[simp] theorem State.setWaiting_sweep (s : State) (r : Requester) (v : Bool) : (State.setWaiting r v s).sweep = s.sweep := rfl
@[simp] theorem State.setWaiting_phrases (s : State) (r : Requester) (v : Bool) : (State.setWaiting r v s).phrases = s.phrases := rfl
@[simp] theorem State.setWaiting_clock (s : State) (r : Requester) (v : Bool) : (State.setWaiting r v s).clock = s.clock := rfl
@[simp] theorem State.setWaiting_retire (s : State) (r : Requester) (v : Bool) : (State.setWaiting r v s).retire = s.retire := rfl
@[simp] theorem State.setWaiting_views (s : State) (r : Requester) (v : Bool) : (State.setWaiting r v s).views = s.views := rfl
@[simp] theorem State.setWaiting_composer (s : State) (r : Requester) (v : Bool) : (State.setWaiting r v s).composer = s.composer := rfl
@[simp] theorem State.setWaiting_links (s : State) (r : Requester) (v : Bool) : (State.setWaiting r v s).links = s.links := rfl
@[simp] theorem State.setWaiting_events (s : State) (r : Requester) (v : Bool) : (State.setWaiting r v s).events = s.events := rfl

/-! ## setStoreState -/

@[simp] theorem State.setStoreState_pending (s : State) (v : StoreState) : (State.setStoreState v s).pending = s.pending := rfl
@[simp] theorem State.setStoreState_inReset (s : State) (v : StoreState) : (State.setStoreState v s).inReset = s.inReset := rfl
@[simp] theorem State.setStoreState_port (s : State) (v : StoreState) : (State.setStoreState v s).port = s.port := rfl
@[simp] theorem State.setStoreState_cmd (s : State) (v : StoreState) : (State.setStoreState v s).cmd = s.cmd := rfl
@[simp] theorem State.setStoreState_dir (s : State) (v : StoreState) : (State.setStoreState v s).dir = s.dir := rfl
@[simp] theorem State.setStoreState_mem (s : State) (v : StoreState) : (State.setStoreState v s).mem = s.mem := rfl
@[simp] theorem State.setStoreState_store (s : State) (v : StoreState) : (State.setStoreState v s).store = { s.store with state := v } := rfl
@[simp] theorem State.setStoreState_arb (s : State) (v : StoreState) : (State.setStoreState v s).arb = s.arb := rfl
@[simp] theorem State.setStoreState_sweep (s : State) (v : StoreState) : (State.setStoreState v s).sweep = s.sweep := rfl
@[simp] theorem State.setStoreState_phrases (s : State) (v : StoreState) : (State.setStoreState v s).phrases = s.phrases := rfl
@[simp] theorem State.setStoreState_clock (s : State) (v : StoreState) : (State.setStoreState v s).clock = s.clock := rfl
@[simp] theorem State.setStoreState_retire (s : State) (v : StoreState) : (State.setStoreState v s).retire = s.retire := rfl
@[simp] theorem State.setStoreState_views (s : State) (v : StoreState) : (State.setStoreState v s).views = s.views := rfl
@[simp] theorem State.setStoreState_composer (s : State) (v : StoreState) : (State.setStoreState v s).composer = s.composer := rfl
@[simp] theorem State.setStoreState_links (s : State) (v : StoreState) : (State.setStoreState v s).links = s.links := rfl
@[simp] theorem State.setStoreState_events (s : State) (v : StoreState) : (State.setStoreState v s).events = s.events := rfl

/-! ## setComposing -/

@[simp] theorem State.setComposing_pending (s : State) (c : Composing) : (State.setComposing c s).pending = s.pending := rfl
@[simp] theorem State.setComposing_inReset (s : State) (c : Composing) : (State.setComposing c s).inReset = s.inReset := rfl
@[simp] theorem State.setComposing_port (s : State) (c : Composing) : (State.setComposing c s).port = s.port := rfl
@[simp] theorem State.setComposing_cmd (s : State) (c : Composing) : (State.setComposing c s).cmd = s.cmd := rfl
@[simp] theorem State.setComposing_dir (s : State) (c : Composing) : (State.setComposing c s).dir = s.dir := rfl
@[simp] theorem State.setComposing_mem (s : State) (c : Composing) : (State.setComposing c s).mem = s.mem := rfl
@[simp] theorem State.setComposing_store (s : State) (c : Composing) : (State.setComposing c s).store = s.store := rfl
@[simp] theorem State.setComposing_arb (s : State) (c : Composing) : (State.setComposing c s).arb = s.arb := rfl
@[simp] theorem State.setComposing_sweep (s : State) (c : Composing) : (State.setComposing c s).sweep = s.sweep := rfl
@[simp] theorem State.setComposing_phrases (s : State) (c : Composing) : (State.setComposing c s).phrases = s.phrases := rfl
@[simp] theorem State.setComposing_clock (s : State) (c : Composing) : (State.setComposing c s).clock = s.clock := rfl
@[simp] theorem State.setComposing_retire (s : State) (c : Composing) : (State.setComposing c s).retire = s.retire := rfl
@[simp] theorem State.setComposing_views (s : State) (c : Composing) : (State.setComposing c s).views = s.views := rfl
@[simp] theorem State.setComposing_composer (s : State) (c : Composing) : (State.setComposing c s).composer = { s.composer with work := c } := rfl
@[simp] theorem State.setComposing_links (s : State) (c : Composing) : (State.setComposing c s).links = s.links := rfl
@[simp] theorem State.setComposing_events (s : State) (c : Composing) : (State.setComposing c s).events = s.events := rfl

end Sys2Proof.Machine
end

