-- ==== Sys2Proof/Laws/Frames.lean ====
section
/-!
SUPPORT. What each shared operation leaves alone: one lemma for each operation and each field it does not touch, for
the provers to cite in place of unfolding the operation.
-/

namespace Sys2Proof.Machine

/-! ## raiseEvent -/

@[simp] theorem raiseEvent_pending (k : EventKind) (a b : Option Nat) (c : Option Bank) (d : Option (Fin 4)) (e : Operation) (s : State) : (raiseEvent k a b c d e s).pending = s.pending := by
  simp [raiseEvent]
@[simp] theorem raiseEvent_inReset (k : EventKind) (a b : Option Nat) (c : Option Bank) (d : Option (Fin 4)) (e : Operation) (s : State) : (raiseEvent k a b c d e s).inReset = s.inReset := by
  simp [raiseEvent]
@[simp] theorem raiseEvent_port (k : EventKind) (a b : Option Nat) (c : Option Bank) (d : Option (Fin 4)) (e : Operation) (s : State) : (raiseEvent k a b c d e s).port = s.port := by
  simp [raiseEvent]
@[simp] theorem raiseEvent_cmd (k : EventKind) (a b : Option Nat) (c : Option Bank) (d : Option (Fin 4)) (e : Operation) (s : State) : (raiseEvent k a b c d e s).cmd = s.cmd := by
  simp [raiseEvent]
@[simp] theorem raiseEvent_dir (k : EventKind) (a b : Option Nat) (c : Option Bank) (d : Option (Fin 4)) (e : Operation) (s : State) : (raiseEvent k a b c d e s).dir = s.dir := by
  simp [raiseEvent]
@[simp] theorem raiseEvent_mem (k : EventKind) (a b : Option Nat) (c : Option Bank) (d : Option (Fin 4)) (e : Operation) (s : State) : (raiseEvent k a b c d e s).mem = s.mem := by
  simp [raiseEvent]
@[simp] theorem raiseEvent_store (k : EventKind) (a b : Option Nat) (c : Option Bank) (d : Option (Fin 4)) (e : Operation) (s : State) : (raiseEvent k a b c d e s).store = s.store := by
  simp [raiseEvent]
@[simp] theorem raiseEvent_arb (k : EventKind) (a b : Option Nat) (c : Option Bank) (d : Option (Fin 4)) (e : Operation) (s : State) : (raiseEvent k a b c d e s).arb = s.arb := by
  simp [raiseEvent]
@[simp] theorem raiseEvent_sweep (k : EventKind) (a b : Option Nat) (c : Option Bank) (d : Option (Fin 4)) (e : Operation) (s : State) : (raiseEvent k a b c d e s).sweep = s.sweep := by
  simp [raiseEvent]
@[simp] theorem raiseEvent_phrases (k : EventKind) (a b : Option Nat) (c : Option Bank) (d : Option (Fin 4)) (e : Operation) (s : State) : (raiseEvent k a b c d e s).phrases = s.phrases := by
  simp [raiseEvent]
@[simp] theorem raiseEvent_clock (k : EventKind) (a b : Option Nat) (c : Option Bank) (d : Option (Fin 4)) (e : Operation) (s : State) : (raiseEvent k a b c d e s).clock = s.clock := by
  simp [raiseEvent]
@[simp] theorem raiseEvent_retire (k : EventKind) (a b : Option Nat) (c : Option Bank) (d : Option (Fin 4)) (e : Operation) (s : State) : (raiseEvent k a b c d e s).retire = s.retire := by
  simp [raiseEvent]
@[simp] theorem raiseEvent_views (k : EventKind) (a b : Option Nat) (c : Option Bank) (d : Option (Fin 4)) (e : Operation) (s : State) : (raiseEvent k a b c d e s).views = s.views := by
  simp [raiseEvent]
@[simp] theorem raiseEvent_composer (k : EventKind) (a b : Option Nat) (c : Option Bank) (d : Option (Fin 4)) (e : Operation) (s : State) : (raiseEvent k a b c d e s).composer = s.composer := by
  simp [raiseEvent]
@[simp] theorem raiseEvent_links (k : EventKind) (a b : Option Nat) (c : Option Bank) (d : Option (Fin 4)) (e : Operation) (s : State) : (raiseEvent k a b c d e s).links = s.links := by
  simp [raiseEvent]

/-! ## setPhrase -/

@[simp] theorem setPhrase_pending (n : Nat) (p : Phrase) (s : State) : (s.setPhrase n p).pending = s.pending := by
  unfold State.setPhrase; split <;> simp
@[simp] theorem setPhrase_inReset (n : Nat) (p : Phrase) (s : State) : (s.setPhrase n p).inReset = s.inReset := by
  unfold State.setPhrase; split <;> simp
@[simp] theorem setPhrase_port (n : Nat) (p : Phrase) (s : State) : (s.setPhrase n p).port = s.port := by
  unfold State.setPhrase; split <;> simp
@[simp] theorem setPhrase_cmd (n : Nat) (p : Phrase) (s : State) : (s.setPhrase n p).cmd = s.cmd := by
  unfold State.setPhrase; split <;> simp
@[simp] theorem setPhrase_dir (n : Nat) (p : Phrase) (s : State) : (s.setPhrase n p).dir = s.dir := by
  unfold State.setPhrase; split <;> simp
@[simp] theorem setPhrase_mem (n : Nat) (p : Phrase) (s : State) : (s.setPhrase n p).mem = s.mem := by
  unfold State.setPhrase; split <;> simp
@[simp] theorem setPhrase_store (n : Nat) (p : Phrase) (s : State) : (s.setPhrase n p).store = s.store := by
  unfold State.setPhrase; split <;> simp
@[simp] theorem setPhrase_arb (n : Nat) (p : Phrase) (s : State) : (s.setPhrase n p).arb = s.arb := by
  unfold State.setPhrase; split <;> simp
@[simp] theorem setPhrase_sweep (n : Nat) (p : Phrase) (s : State) : (s.setPhrase n p).sweep = s.sweep := by
  unfold State.setPhrase; split <;> simp
@[simp] theorem setPhrase_clock (n : Nat) (p : Phrase) (s : State) : (s.setPhrase n p).clock = s.clock := by
  unfold State.setPhrase; split <;> simp
@[simp] theorem setPhrase_retire (n : Nat) (p : Phrase) (s : State) : (s.setPhrase n p).retire = s.retire := by
  unfold State.setPhrase; split <;> simp
@[simp] theorem setPhrase_views (n : Nat) (p : Phrase) (s : State) : (s.setPhrase n p).views = s.views := by
  unfold State.setPhrase; split <;> simp
@[simp] theorem setPhrase_composer (n : Nat) (p : Phrase) (s : State) : (s.setPhrase n p).composer = s.composer := by
  unfold State.setPhrase; split <;> simp
@[simp] theorem setPhrase_links (n : Nat) (p : Phrase) (s : State) : (s.setPhrase n p).links = s.links := by
  unfold State.setPhrase; split <;> simp
@[simp] theorem setPhrase_events (n : Nat) (p : Phrase) (s : State) : (s.setPhrase n p).events = s.events := by
  unfold State.setPhrase; split <;> simp

/-! ## takePhrase -/

@[simp] theorem takePhrase_pending (n : Nat) (s : State) : (takePhrase n s).pending = s.pending := by
  simp [takePhrase]
@[simp] theorem takePhrase_inReset (n : Nat) (s : State) : (takePhrase n s).inReset = s.inReset := by
  simp [takePhrase]
@[simp] theorem takePhrase_port (n : Nat) (s : State) : (takePhrase n s).port = s.port := by
  simp [takePhrase]
@[simp] theorem takePhrase_cmd (n : Nat) (s : State) : (takePhrase n s).cmd = s.cmd := by
  simp [takePhrase]
@[simp] theorem takePhrase_dir (n : Nat) (s : State) : (takePhrase n s).dir = s.dir := by
  simp [takePhrase]
@[simp] theorem takePhrase_mem (n : Nat) (s : State) : (takePhrase n s).mem = s.mem := by
  simp [takePhrase]
@[simp] theorem takePhrase_store (n : Nat) (s : State) : (takePhrase n s).store = s.store := by
  simp [takePhrase]
@[simp] theorem takePhrase_arb (n : Nat) (s : State) : (takePhrase n s).arb = s.arb := by
  simp [takePhrase]
@[simp] theorem takePhrase_sweep (n : Nat) (s : State) : (takePhrase n s).sweep = s.sweep := by
  simp [takePhrase]
@[simp] theorem takePhrase_clock (n : Nat) (s : State) : (takePhrase n s).clock = s.clock := by
  simp [takePhrase]
@[simp] theorem takePhrase_retire (n : Nat) (s : State) : (takePhrase n s).retire = s.retire := by
  simp [takePhrase]
@[simp] theorem takePhrase_views (n : Nat) (s : State) : (takePhrase n s).views = s.views := by
  simp [takePhrase]
@[simp] theorem takePhrase_composer (n : Nat) (s : State) : (takePhrase n s).composer = s.composer := by
  simp [takePhrase]
@[simp] theorem takePhrase_links (n : Nat) (s : State) : (takePhrase n s).links = s.links := by
  simp [takePhrase]
@[simp] theorem takePhrase_events (n : Nat) (s : State) : (takePhrase n s).events = s.events := by
  simp [takePhrase]

/-! ## takeVia -/

@[simp] theorem takeVia_pending (v : Option Nat) (s : State) : (takeVia v s).pending = s.pending := by
  cases v <;> simp [takeVia]
@[simp] theorem takeVia_inReset (v : Option Nat) (s : State) : (takeVia v s).inReset = s.inReset := by
  cases v <;> simp [takeVia]
@[simp] theorem takeVia_port (v : Option Nat) (s : State) : (takeVia v s).port = s.port := by
  cases v <;> simp [takeVia]
@[simp] theorem takeVia_cmd (v : Option Nat) (s : State) : (takeVia v s).cmd = s.cmd := by
  cases v <;> simp [takeVia]
@[simp] theorem takeVia_dir (v : Option Nat) (s : State) : (takeVia v s).dir = s.dir := by
  cases v <;> simp [takeVia]
@[simp] theorem takeVia_mem (v : Option Nat) (s : State) : (takeVia v s).mem = s.mem := by
  cases v <;> simp [takeVia]
@[simp] theorem takeVia_store (v : Option Nat) (s : State) : (takeVia v s).store = s.store := by
  cases v <;> simp [takeVia]
@[simp] theorem takeVia_arb (v : Option Nat) (s : State) : (takeVia v s).arb = s.arb := by
  cases v <;> simp [takeVia]
@[simp] theorem takeVia_sweep (v : Option Nat) (s : State) : (takeVia v s).sweep = s.sweep := by
  cases v <;> simp [takeVia]
@[simp] theorem takeVia_clock (v : Option Nat) (s : State) : (takeVia v s).clock = s.clock := by
  cases v <;> simp [takeVia]
@[simp] theorem takeVia_retire (v : Option Nat) (s : State) : (takeVia v s).retire = s.retire := by
  cases v <;> simp [takeVia]
@[simp] theorem takeVia_views (v : Option Nat) (s : State) : (takeVia v s).views = s.views := by
  cases v <;> simp [takeVia]
@[simp] theorem takeVia_composer (v : Option Nat) (s : State) : (takeVia v s).composer = s.composer := by
  cases v <;> simp [takeVia]
@[simp] theorem takeVia_links (v : Option Nat) (s : State) : (takeVia v s).links = s.links := by
  cases v <;> simp [takeVia]
@[simp] theorem takeVia_events (v : Option Nat) (s : State) : (takeVia v s).events = s.events := by
  cases v <;> simp [takeVia]

/-! ## takeEntry -/

@[simp] theorem takeEntry_pending (e : Entry) (s : State) : (takeEntry e s).pending = s.pending := by
  simp [takeEntry]
@[simp] theorem takeEntry_inReset (e : Entry) (s : State) : (takeEntry e s).inReset = s.inReset := by
  simp [takeEntry]
@[simp] theorem takeEntry_port (e : Entry) (s : State) : (takeEntry e s).port = s.port := by
  simp [takeEntry]
@[simp] theorem takeEntry_cmd (e : Entry) (s : State) : (takeEntry e s).cmd = s.cmd := by
  simp [takeEntry]
@[simp] theorem takeEntry_dir (e : Entry) (s : State) : (takeEntry e s).dir = s.dir := by
  simp [takeEntry]
@[simp] theorem takeEntry_mem (e : Entry) (s : State) : (takeEntry e s).mem = s.mem := by
  simp [takeEntry]
@[simp] theorem takeEntry_store (e : Entry) (s : State) : (takeEntry e s).store = s.store := by
  simp [takeEntry]
@[simp] theorem takeEntry_arb (e : Entry) (s : State) : (takeEntry e s).arb = s.arb := by
  simp [takeEntry]
@[simp] theorem takeEntry_sweep (e : Entry) (s : State) : (takeEntry e s).sweep = s.sweep := by
  simp [takeEntry]
@[simp] theorem takeEntry_clock (e : Entry) (s : State) : (takeEntry e s).clock = s.clock := by
  simp [takeEntry]
@[simp] theorem takeEntry_retire (e : Entry) (s : State) : (takeEntry e s).retire = s.retire := by
  simp [takeEntry]
@[simp] theorem takeEntry_views (e : Entry) (s : State) : (takeEntry e s).views = s.views := by
  simp [takeEntry]
@[simp] theorem takeEntry_composer (e : Entry) (s : State) : (takeEntry e s).composer = s.composer := by
  simp [takeEntry]
@[simp] theorem takeEntry_links (e : Entry) (s : State) : (takeEntry e s).links = s.links := by
  simp [takeEntry]
@[simp] theorem takeEntry_events (e : Entry) (s : State) : (takeEntry e s).events = s.events := by
  simp [takeEntry]

/-! ## releasePhrase -/

@[simp] theorem releasePhrase_pending (n : Nat) (s : State) : (releasePhrase n s).pending = s.pending := by
  unfold releasePhrase; split <;> try split
  all_goals simp
@[simp] theorem releasePhrase_inReset (n : Nat) (s : State) : (releasePhrase n s).inReset = s.inReset := by
  unfold releasePhrase; split <;> try split
  all_goals simp
@[simp] theorem releasePhrase_port (n : Nat) (s : State) : (releasePhrase n s).port = s.port := by
  unfold releasePhrase; split <;> try split
  all_goals simp
@[simp] theorem releasePhrase_cmd (n : Nat) (s : State) : (releasePhrase n s).cmd = s.cmd := by
  unfold releasePhrase; split <;> try split
  all_goals simp
@[simp] theorem releasePhrase_dir (n : Nat) (s : State) : (releasePhrase n s).dir = s.dir := by
  unfold releasePhrase; split <;> try split
  all_goals simp
@[simp] theorem releasePhrase_mem (n : Nat) (s : State) : (releasePhrase n s).mem = s.mem := by
  unfold releasePhrase; split <;> try split
  all_goals simp
@[simp] theorem releasePhrase_store (n : Nat) (s : State) : (releasePhrase n s).store = s.store := by
  unfold releasePhrase; split <;> try split
  all_goals simp
@[simp] theorem releasePhrase_arb (n : Nat) (s : State) : (releasePhrase n s).arb = s.arb := by
  unfold releasePhrase; split <;> try split
  all_goals simp
@[simp] theorem releasePhrase_sweep (n : Nat) (s : State) : (releasePhrase n s).sweep = s.sweep := by
  unfold releasePhrase; split <;> try split
  all_goals simp
@[simp] theorem releasePhrase_clock (n : Nat) (s : State) : (releasePhrase n s).clock = s.clock := by
  unfold releasePhrase; split <;> try split
  all_goals simp
@[simp] theorem releasePhrase_retire (n : Nat) (s : State) : (releasePhrase n s).retire = s.retire := by
  unfold releasePhrase; split <;> try split
  all_goals simp
@[simp] theorem releasePhrase_views (n : Nat) (s : State) : (releasePhrase n s).views = s.views := by
  unfold releasePhrase; split <;> try split
  all_goals simp
@[simp] theorem releasePhrase_composer (n : Nat) (s : State) : (releasePhrase n s).composer = s.composer := by
  unfold releasePhrase; split <;> try split
  all_goals simp
@[simp] theorem releasePhrase_links (n : Nat) (s : State) : (releasePhrase n s).links = s.links := by
  unfold releasePhrase; split <;> try split
  all_goals simp

/-! ## releaseVia -/

@[simp] theorem releaseVia_pending (v : Option Nat) (s : State) : (releaseVia v s).pending = s.pending := by
  cases v <;> simp [releaseVia]
@[simp] theorem releaseVia_inReset (v : Option Nat) (s : State) : (releaseVia v s).inReset = s.inReset := by
  cases v <;> simp [releaseVia]
@[simp] theorem releaseVia_port (v : Option Nat) (s : State) : (releaseVia v s).port = s.port := by
  cases v <;> simp [releaseVia]
@[simp] theorem releaseVia_cmd (v : Option Nat) (s : State) : (releaseVia v s).cmd = s.cmd := by
  cases v <;> simp [releaseVia]
@[simp] theorem releaseVia_dir (v : Option Nat) (s : State) : (releaseVia v s).dir = s.dir := by
  cases v <;> simp [releaseVia]
@[simp] theorem releaseVia_mem (v : Option Nat) (s : State) : (releaseVia v s).mem = s.mem := by
  cases v <;> simp [releaseVia]
@[simp] theorem releaseVia_store (v : Option Nat) (s : State) : (releaseVia v s).store = s.store := by
  cases v <;> simp [releaseVia]
@[simp] theorem releaseVia_arb (v : Option Nat) (s : State) : (releaseVia v s).arb = s.arb := by
  cases v <;> simp [releaseVia]
@[simp] theorem releaseVia_sweep (v : Option Nat) (s : State) : (releaseVia v s).sweep = s.sweep := by
  cases v <;> simp [releaseVia]
@[simp] theorem releaseVia_clock (v : Option Nat) (s : State) : (releaseVia v s).clock = s.clock := by
  cases v <;> simp [releaseVia]
@[simp] theorem releaseVia_retire (v : Option Nat) (s : State) : (releaseVia v s).retire = s.retire := by
  cases v <;> simp [releaseVia]
@[simp] theorem releaseVia_views (v : Option Nat) (s : State) : (releaseVia v s).views = s.views := by
  cases v <;> simp [releaseVia]
@[simp] theorem releaseVia_composer (v : Option Nat) (s : State) : (releaseVia v s).composer = s.composer := by
  cases v <;> simp [releaseVia]
@[simp] theorem releaseVia_links (v : Option Nat) (s : State) : (releaseVia v s).links = s.links := by
  cases v <;> simp [releaseVia]

/-! ## releaseEntry -/

@[simp] theorem releaseEntry_pending (e : Entry) (s : State) : (releaseEntry e s).pending = s.pending := by
  simp [releaseEntry]
@[simp] theorem releaseEntry_inReset (e : Entry) (s : State) : (releaseEntry e s).inReset = s.inReset := by
  simp [releaseEntry]
@[simp] theorem releaseEntry_port (e : Entry) (s : State) : (releaseEntry e s).port = s.port := by
  simp [releaseEntry]
@[simp] theorem releaseEntry_cmd (e : Entry) (s : State) : (releaseEntry e s).cmd = s.cmd := by
  simp [releaseEntry]
@[simp] theorem releaseEntry_dir (e : Entry) (s : State) : (releaseEntry e s).dir = s.dir := by
  simp [releaseEntry]
@[simp] theorem releaseEntry_mem (e : Entry) (s : State) : (releaseEntry e s).mem = s.mem := by
  simp [releaseEntry]
@[simp] theorem releaseEntry_store (e : Entry) (s : State) : (releaseEntry e s).store = s.store := by
  simp [releaseEntry]
@[simp] theorem releaseEntry_arb (e : Entry) (s : State) : (releaseEntry e s).arb = s.arb := by
  simp [releaseEntry]
@[simp] theorem releaseEntry_sweep (e : Entry) (s : State) : (releaseEntry e s).sweep = s.sweep := by
  simp [releaseEntry]
@[simp] theorem releaseEntry_clock (e : Entry) (s : State) : (releaseEntry e s).clock = s.clock := by
  simp [releaseEntry]
@[simp] theorem releaseEntry_retire (e : Entry) (s : State) : (releaseEntry e s).retire = s.retire := by
  simp [releaseEntry]
@[simp] theorem releaseEntry_views (e : Entry) (s : State) : (releaseEntry e s).views = s.views := by
  simp [releaseEntry]
@[simp] theorem releaseEntry_composer (e : Entry) (s : State) : (releaseEntry e s).composer = s.composer := by
  simp [releaseEntry]
@[simp] theorem releaseEntry_links (e : Entry) (s : State) : (releaseEntry e s).links = s.links := by
  simp [releaseEntry]

/-! ## moveReferences -/

@[simp] theorem moveReferences_pending (e f : Entry) (s : State) : (moveReferences e f s).pending = s.pending := by
  simp only [moveReferences]; split_ifs <;> simp
@[simp] theorem moveReferences_inReset (e f : Entry) (s : State) : (moveReferences e f s).inReset = s.inReset := by
  simp only [moveReferences]; split_ifs <;> simp
@[simp] theorem moveReferences_port (e f : Entry) (s : State) : (moveReferences e f s).port = s.port := by
  simp only [moveReferences]; split_ifs <;> simp
@[simp] theorem moveReferences_cmd (e f : Entry) (s : State) : (moveReferences e f s).cmd = s.cmd := by
  simp only [moveReferences]; split_ifs <;> simp
@[simp] theorem moveReferences_dir (e f : Entry) (s : State) : (moveReferences e f s).dir = s.dir := by
  simp only [moveReferences]; split_ifs <;> simp
@[simp] theorem moveReferences_mem (e f : Entry) (s : State) : (moveReferences e f s).mem = s.mem := by
  simp only [moveReferences]; split_ifs <;> simp
@[simp] theorem moveReferences_store (e f : Entry) (s : State) : (moveReferences e f s).store = s.store := by
  simp only [moveReferences]; split_ifs <;> simp
@[simp] theorem moveReferences_arb (e f : Entry) (s : State) : (moveReferences e f s).arb = s.arb := by
  simp only [moveReferences]; split_ifs <;> simp
@[simp] theorem moveReferences_sweep (e f : Entry) (s : State) : (moveReferences e f s).sweep = s.sweep := by
  simp only [moveReferences]; split_ifs <;> simp
@[simp] theorem moveReferences_clock (e f : Entry) (s : State) : (moveReferences e f s).clock = s.clock := by
  simp only [moveReferences]; split_ifs <;> simp
@[simp] theorem moveReferences_retire (e f : Entry) (s : State) : (moveReferences e f s).retire = s.retire := by
  simp only [moveReferences]; split_ifs <;> simp
@[simp] theorem moveReferences_views (e f : Entry) (s : State) : (moveReferences e f s).views = s.views := by
  simp only [moveReferences]; split_ifs <;> simp
@[simp] theorem moveReferences_composer (e f : Entry) (s : State) : (moveReferences e f s).composer = s.composer := by
  simp only [moveReferences]; split_ifs <;> simp
@[simp] theorem moveReferences_links (e f : Entry) (s : State) : (moveReferences e f s).links = s.links := by
  simp only [moveReferences]; split_ifs <;> simp

/-! ## removeEntry -/

@[simp] theorem removeEntry_pending (e : Entry) (s : State) : (removeEntry e s).pending = s.pending := by
  simp [removeEntry]
@[simp] theorem removeEntry_inReset (e : Entry) (s : State) : (removeEntry e s).inReset = s.inReset := by
  simp [removeEntry]
@[simp] theorem removeEntry_port (e : Entry) (s : State) : (removeEntry e s).port = s.port := by
  simp [removeEntry]
@[simp] theorem removeEntry_cmd (e : Entry) (s : State) : (removeEntry e s).cmd = s.cmd := by
  simp [removeEntry]
@[simp] theorem removeEntry_mem (e : Entry) (s : State) : (removeEntry e s).mem = s.mem := by
  simp [removeEntry]
@[simp] theorem removeEntry_store (e : Entry) (s : State) : (removeEntry e s).store = s.store := by
  simp [removeEntry]
@[simp] theorem removeEntry_arb (e : Entry) (s : State) : (removeEntry e s).arb = s.arb := by
  simp [removeEntry]
@[simp] theorem removeEntry_sweep (e : Entry) (s : State) : (removeEntry e s).sweep = s.sweep := by
  simp [removeEntry]
@[simp] theorem removeEntry_clock (e : Entry) (s : State) : (removeEntry e s).clock = s.clock := by
  simp [removeEntry]
@[simp] theorem removeEntry_retire (e : Entry) (s : State) : (removeEntry e s).retire = s.retire := by
  simp [removeEntry]
@[simp] theorem removeEntry_views (e : Entry) (s : State) : (removeEntry e s).views = s.views := by
  simp [removeEntry]
@[simp] theorem removeEntry_composer (e : Entry) (s : State) : (removeEntry e s).composer = s.composer := by
  simp [removeEntry]
@[simp] theorem removeEntry_links (e : Entry) (s : State) : (removeEntry e s).links = s.links := by
  simp [removeEntry]

/-! ## emptyDirectory -/

/-- The empty claim makes its change and answers the number of entries (R13, R18). -/
@[simp] theorem emptyClaim_snd (s : State) : (emptyClaim s).2 = emptyDirectory s := rfl
@[simp] theorem emptyClaim_fst (s : State) : (emptyClaim s).1 = s.dir.order.length := rfl

theorem releaseAll_pending (l : List Entry) (s : State) :
    (l.foldl (fun t e => releaseEntry e t) s).pending = s.pending := by
  induction l generalizing s with
  | nil => rfl
  | cons e l ih => simp [ih]
@[simp] theorem emptyDirectory_pending (s : State) : (emptyDirectory s).pending = s.pending := by
  simp [emptyDirectory, releaseAll_pending]
theorem releaseAll_inReset (l : List Entry) (s : State) :
    (l.foldl (fun t e => releaseEntry e t) s).inReset = s.inReset := by
  induction l generalizing s with
  | nil => rfl
  | cons e l ih => simp [ih]
@[simp] theorem emptyDirectory_inReset (s : State) : (emptyDirectory s).inReset = s.inReset := by
  simp [emptyDirectory, releaseAll_inReset]
theorem releaseAll_port (l : List Entry) (s : State) :
    (l.foldl (fun t e => releaseEntry e t) s).port = s.port := by
  induction l generalizing s with
  | nil => rfl
  | cons e l ih => simp [ih]
@[simp] theorem emptyDirectory_port (s : State) : (emptyDirectory s).port = s.port := by
  simp [emptyDirectory, releaseAll_port]
theorem releaseAll_cmd (l : List Entry) (s : State) :
    (l.foldl (fun t e => releaseEntry e t) s).cmd = s.cmd := by
  induction l generalizing s with
  | nil => rfl
  | cons e l ih => simp [ih]
@[simp] theorem emptyDirectory_cmd (s : State) : (emptyDirectory s).cmd = s.cmd := by
  simp [emptyDirectory, releaseAll_cmd]
theorem releaseAll_mem (l : List Entry) (s : State) :
    (l.foldl (fun t e => releaseEntry e t) s).mem = s.mem := by
  induction l generalizing s with
  | nil => rfl
  | cons e l ih => simp [ih]
@[simp] theorem emptyDirectory_mem (s : State) : (emptyDirectory s).mem = s.mem := by
  simp [emptyDirectory, releaseAll_mem]
theorem releaseAll_store (l : List Entry) (s : State) :
    (l.foldl (fun t e => releaseEntry e t) s).store = s.store := by
  induction l generalizing s with
  | nil => rfl
  | cons e l ih => simp [ih]
@[simp] theorem emptyDirectory_store (s : State) : (emptyDirectory s).store = s.store := by
  simp [emptyDirectory, releaseAll_store]
theorem releaseAll_arb (l : List Entry) (s : State) :
    (l.foldl (fun t e => releaseEntry e t) s).arb = s.arb := by
  induction l generalizing s with
  | nil => rfl
  | cons e l ih => simp [ih]
@[simp] theorem emptyDirectory_arb (s : State) : (emptyDirectory s).arb = s.arb := by
  simp [emptyDirectory, releaseAll_arb]
theorem releaseAll_sweep (l : List Entry) (s : State) :
    (l.foldl (fun t e => releaseEntry e t) s).sweep = s.sweep := by
  induction l generalizing s with
  | nil => rfl
  | cons e l ih => simp [ih]
@[simp] theorem emptyDirectory_sweep (s : State) : (emptyDirectory s).sweep = s.sweep := by
  simp [emptyDirectory, releaseAll_sweep]
theorem releaseAll_clock (l : List Entry) (s : State) :
    (l.foldl (fun t e => releaseEntry e t) s).clock = s.clock := by
  induction l generalizing s with
  | nil => rfl
  | cons e l ih => simp [ih]
@[simp] theorem emptyDirectory_clock (s : State) : (emptyDirectory s).clock = s.clock := by
  simp [emptyDirectory, releaseAll_clock]
theorem releaseAll_retire (l : List Entry) (s : State) :
    (l.foldl (fun t e => releaseEntry e t) s).retire = s.retire := by
  induction l generalizing s with
  | nil => rfl
  | cons e l ih => simp [ih]
@[simp] theorem emptyDirectory_retire (s : State) : (emptyDirectory s).retire = s.retire := by
  simp [emptyDirectory, releaseAll_retire]
theorem releaseAll_views (l : List Entry) (s : State) :
    (l.foldl (fun t e => releaseEntry e t) s).views = s.views := by
  induction l generalizing s with
  | nil => rfl
  | cons e l ih => simp [ih]
@[simp] theorem emptyDirectory_views (s : State) : (emptyDirectory s).views = s.views := by
  simp [emptyDirectory, releaseAll_views]
theorem releaseAll_composer (l : List Entry) (s : State) :
    (l.foldl (fun t e => releaseEntry e t) s).composer = s.composer := by
  induction l generalizing s with
  | nil => rfl
  | cons e l ih => simp [ih]
@[simp] theorem emptyDirectory_composer (s : State) : (emptyDirectory s).composer = s.composer := by
  simp [emptyDirectory, releaseAll_composer]
theorem releaseAll_links (l : List Entry) (s : State) :
    (l.foldl (fun t e => releaseEntry e t) s).links = s.links := by
  induction l generalizing s with
  | nil => rfl
  | cons e l ih => simp [ih]
@[simp] theorem emptyDirectory_links (s : State) : (emptyDirectory s).links = s.links := by
  simp [emptyDirectory, releaseAll_links]

/-! ## openClaim -/

@[simp] theorem openClaim_pending (s : State) : (openClaim s).pending = s.pending := by
  simp [openClaim]
@[simp] theorem openClaim_inReset (s : State) : (openClaim s).inReset = s.inReset := by
  simp [openClaim]
@[simp] theorem openClaim_port (s : State) : (openClaim s).port = s.port := by
  simp [openClaim]
@[simp] theorem openClaim_cmd (s : State) : (openClaim s).cmd = s.cmd := by
  simp [openClaim]
@[simp] theorem openClaim_mem (s : State) : (openClaim s).mem = s.mem := by
  simp [openClaim]
@[simp] theorem openClaim_store (s : State) : (openClaim s).store = s.store := by
  simp [openClaim]
@[simp] theorem openClaim_arb (s : State) : (openClaim s).arb = s.arb := by
  simp [openClaim]
@[simp] theorem openClaim_sweep (s : State) : (openClaim s).sweep = s.sweep := by
  simp [openClaim]
@[simp] theorem openClaim_phrases (s : State) : (openClaim s).phrases = s.phrases := by
  simp [openClaim]
@[simp] theorem openClaim_clock (s : State) : (openClaim s).clock = s.clock := by
  simp [openClaim]
@[simp] theorem openClaim_retire (s : State) : (openClaim s).retire = s.retire := by
  simp [openClaim]
@[simp] theorem openClaim_views (s : State) : (openClaim s).views = s.views := by
  simp [openClaim]
@[simp] theorem openClaim_composer (s : State) : (openClaim s).composer = s.composer := by
  simp [openClaim]
@[simp] theorem openClaim_links (s : State) : (openClaim s).links = s.links := by
  simp [openClaim]
@[simp] theorem openClaim_events (s : State) : (openClaim s).events = s.events := by
  simp [openClaim]

/-! ## grantTo -/

@[simp] theorem grantTo_pending (r : Requester) (s : State) : (grantTo r s).pending = s.pending := by
  simp only [grantTo]; split <;> simp
@[simp] theorem grantTo_inReset (r : Requester) (s : State) : (grantTo r s).inReset = s.inReset := by
  simp only [grantTo]; split <;> simp
@[simp] theorem grantTo_port (r : Requester) (s : State) : (grantTo r s).port = s.port := by
  simp only [grantTo]; split <;> simp
@[simp] theorem grantTo_cmd (r : Requester) (s : State) : (grantTo r s).cmd = s.cmd := by
  simp only [grantTo]; split <;> simp
@[simp] theorem grantTo_dir (r : Requester) (s : State) : (grantTo r s).dir = s.dir := by
  simp only [grantTo]; split <;> simp
@[simp] theorem grantTo_mem (r : Requester) (s : State) : (grantTo r s).mem = s.mem := by
  simp only [grantTo]; split <;> simp
@[simp] theorem grantTo_store (r : Requester) (s : State) : (grantTo r s).store = s.store := by
  simp only [grantTo]; split <;> simp
@[simp] theorem grantTo_phrases (r : Requester) (s : State) : (grantTo r s).phrases = s.phrases := by
  simp only [grantTo]; split <;> simp
@[simp] theorem grantTo_clock (r : Requester) (s : State) : (grantTo r s).clock = s.clock := by
  simp only [grantTo]; split <;> simp
@[simp] theorem grantTo_retire (r : Requester) (s : State) : (grantTo r s).retire = s.retire := by
  simp only [grantTo]; split <;> simp
@[simp] theorem grantTo_views (r : Requester) (s : State) : (grantTo r s).views = s.views := by
  simp only [grantTo]; split <;> simp
@[simp] theorem grantTo_composer (r : Requester) (s : State) : (grantTo r s).composer = s.composer := by
  simp only [grantTo]; split <;> simp
@[simp] theorem grantTo_links (r : Requester) (s : State) : (grantTo r s).links = s.links := by
  simp only [grantTo]; split <;> simp
@[simp] theorem grantTo_events (r : Requester) (s : State) : (grantTo r s).events = s.events := by
  simp only [grantTo]; split <;> simp

/-! ## requestPort -/

@[simp] theorem requestPort_pending (r : Requester) (s : State) : (requestPort r s).pending = s.pending := by
  unfold requestPort; split <;> simp
@[simp] theorem requestPort_inReset (r : Requester) (s : State) : (requestPort r s).inReset = s.inReset := by
  unfold requestPort; split <;> simp
@[simp] theorem requestPort_port (r : Requester) (s : State) : (requestPort r s).port = s.port := by
  unfold requestPort; split <;> simp
@[simp] theorem requestPort_cmd (r : Requester) (s : State) : (requestPort r s).cmd = s.cmd := by
  unfold requestPort; split <;> simp
@[simp] theorem requestPort_dir (r : Requester) (s : State) : (requestPort r s).dir = s.dir := by
  unfold requestPort; split <;> simp
@[simp] theorem requestPort_mem (r : Requester) (s : State) : (requestPort r s).mem = s.mem := by
  unfold requestPort; split <;> simp
@[simp] theorem requestPort_store (r : Requester) (s : State) : (requestPort r s).store = s.store := by
  unfold requestPort; split <;> simp
@[simp] theorem requestPort_phrases (r : Requester) (s : State) : (requestPort r s).phrases = s.phrases := by
  unfold requestPort; split <;> simp
@[simp] theorem requestPort_clock (r : Requester) (s : State) : (requestPort r s).clock = s.clock := by
  unfold requestPort; split <;> simp
@[simp] theorem requestPort_retire (r : Requester) (s : State) : (requestPort r s).retire = s.retire := by
  unfold requestPort; split <;> simp
@[simp] theorem requestPort_views (r : Requester) (s : State) : (requestPort r s).views = s.views := by
  unfold requestPort; split <;> simp
@[simp] theorem requestPort_composer (r : Requester) (s : State) : (requestPort r s).composer = s.composer := by
  unfold requestPort; split <;> simp
@[simp] theorem requestPort_links (r : Requester) (s : State) : (requestPort r s).links = s.links := by
  unfold requestPort; split <;> simp
@[simp] theorem requestPort_events (r : Requester) (s : State) : (requestPort r s).events = s.events := by
  unfold requestPort; split <;> simp

/-! ## dropRequest -/

@[simp] theorem dropRequest_pending (r : Requester) (s : State) : (dropRequest r s).pending = s.pending := by
  simp [dropRequest]
@[simp] theorem dropRequest_inReset (r : Requester) (s : State) : (dropRequest r s).inReset = s.inReset := by
  simp [dropRequest]
@[simp] theorem dropRequest_port (r : Requester) (s : State) : (dropRequest r s).port = s.port := by
  simp [dropRequest]
@[simp] theorem dropRequest_cmd (r : Requester) (s : State) : (dropRequest r s).cmd = s.cmd := by
  simp [dropRequest]
@[simp] theorem dropRequest_dir (r : Requester) (s : State) : (dropRequest r s).dir = s.dir := by
  simp [dropRequest]
@[simp] theorem dropRequest_mem (r : Requester) (s : State) : (dropRequest r s).mem = s.mem := by
  simp [dropRequest]
@[simp] theorem dropRequest_store (r : Requester) (s : State) : (dropRequest r s).store = s.store := by
  simp [dropRequest]
@[simp] theorem dropRequest_sweep (r : Requester) (s : State) : (dropRequest r s).sweep = s.sweep := by
  simp [dropRequest]
@[simp] theorem dropRequest_phrases (r : Requester) (s : State) : (dropRequest r s).phrases = s.phrases := by
  simp [dropRequest]
@[simp] theorem dropRequest_clock (r : Requester) (s : State) : (dropRequest r s).clock = s.clock := by
  simp [dropRequest]
@[simp] theorem dropRequest_retire (r : Requester) (s : State) : (dropRequest r s).retire = s.retire := by
  simp [dropRequest]
@[simp] theorem dropRequest_views (r : Requester) (s : State) : (dropRequest r s).views = s.views := by
  simp [dropRequest]
@[simp] theorem dropRequest_composer (r : Requester) (s : State) : (dropRequest r s).composer = s.composer := by
  simp [dropRequest]
@[simp] theorem dropRequest_links (r : Requester) (s : State) : (dropRequest r s).links = s.links := by
  simp [dropRequest]
@[simp] theorem dropRequest_events (r : Requester) (s : State) : (dropRequest r s).events = s.events := by
  simp [dropRequest]

/-! ## disturbCopy -/

@[simp] theorem disturbCopy_pending (b : Bank) (n : Nat) (k : DisturbanceKind) (s : State) : (disturbCopy b n k s).pending = s.pending := by
  unfold disturbCopy; split <;> simp
@[simp] theorem disturbCopy_inReset (b : Bank) (n : Nat) (k : DisturbanceKind) (s : State) : (disturbCopy b n k s).inReset = s.inReset := by
  unfold disturbCopy; split <;> simp
@[simp] theorem disturbCopy_port (b : Bank) (n : Nat) (k : DisturbanceKind) (s : State) : (disturbCopy b n k s).port = s.port := by
  unfold disturbCopy; split <;> simp
@[simp] theorem disturbCopy_cmd (b : Bank) (n : Nat) (k : DisturbanceKind) (s : State) : (disturbCopy b n k s).cmd = s.cmd := by
  unfold disturbCopy; split <;> simp
@[simp] theorem disturbCopy_dir (b : Bank) (n : Nat) (k : DisturbanceKind) (s : State) : (disturbCopy b n k s).dir = s.dir := by
  unfold disturbCopy; split <;> simp
@[simp] theorem disturbCopy_store (b : Bank) (n : Nat) (k : DisturbanceKind) (s : State) : (disturbCopy b n k s).store = s.store := by
  unfold disturbCopy; split <;> simp
@[simp] theorem disturbCopy_arb (b : Bank) (n : Nat) (k : DisturbanceKind) (s : State) : (disturbCopy b n k s).arb = s.arb := by
  unfold disturbCopy; split <;> simp
@[simp] theorem disturbCopy_sweep (b : Bank) (n : Nat) (k : DisturbanceKind) (s : State) : (disturbCopy b n k s).sweep = s.sweep := by
  unfold disturbCopy; split <;> simp
@[simp] theorem disturbCopy_phrases (b : Bank) (n : Nat) (k : DisturbanceKind) (s : State) : (disturbCopy b n k s).phrases = s.phrases := by
  unfold disturbCopy; split <;> simp
@[simp] theorem disturbCopy_clock (b : Bank) (n : Nat) (k : DisturbanceKind) (s : State) : (disturbCopy b n k s).clock = s.clock := by
  unfold disturbCopy; split <;> simp
@[simp] theorem disturbCopy_retire (b : Bank) (n : Nat) (k : DisturbanceKind) (s : State) : (disturbCopy b n k s).retire = s.retire := by
  unfold disturbCopy; split <;> simp
@[simp] theorem disturbCopy_views (b : Bank) (n : Nat) (k : DisturbanceKind) (s : State) : (disturbCopy b n k s).views = s.views := by
  unfold disturbCopy; split <;> simp
@[simp] theorem disturbCopy_composer (b : Bank) (n : Nat) (k : DisturbanceKind) (s : State) : (disturbCopy b n k s).composer = s.composer := by
  unfold disturbCopy; split <;> simp
@[simp] theorem disturbCopy_links (b : Bank) (n : Nat) (k : DisturbanceKind) (s : State) : (disturbCopy b n k s).links = s.links := by
  unfold disturbCopy; split <;> simp
@[simp] theorem disturbCopy_events (b : Bank) (n : Nat) (k : DisturbanceKind) (s : State) : (disturbCopy b n k s).events = s.events := by
  unfold disturbCopy; split <;> simp

/-! ## applyDeferred -/

@[simp] theorem applyDeferred_pending (l : List (Bank × Nat × DisturbanceKind)) (s : State) :
    (applyDeferred l s).pending = s.pending := by
  unfold applyDeferred
  induction l generalizing s with
  | nil => rfl
  | cons e l ih => simp [ih]
@[simp] theorem applyDeferred_inReset (l : List (Bank × Nat × DisturbanceKind)) (s : State) :
    (applyDeferred l s).inReset = s.inReset := by
  unfold applyDeferred
  induction l generalizing s with
  | nil => rfl
  | cons e l ih => simp [ih]
@[simp] theorem applyDeferred_port (l : List (Bank × Nat × DisturbanceKind)) (s : State) :
    (applyDeferred l s).port = s.port := by
  unfold applyDeferred
  induction l generalizing s with
  | nil => rfl
  | cons e l ih => simp [ih]
@[simp] theorem applyDeferred_cmd (l : List (Bank × Nat × DisturbanceKind)) (s : State) :
    (applyDeferred l s).cmd = s.cmd := by
  unfold applyDeferred
  induction l generalizing s with
  | nil => rfl
  | cons e l ih => simp [ih]
@[simp] theorem applyDeferred_dir (l : List (Bank × Nat × DisturbanceKind)) (s : State) :
    (applyDeferred l s).dir = s.dir := by
  unfold applyDeferred
  induction l generalizing s with
  | nil => rfl
  | cons e l ih => simp [ih]
@[simp] theorem applyDeferred_store (l : List (Bank × Nat × DisturbanceKind)) (s : State) :
    (applyDeferred l s).store = s.store := by
  unfold applyDeferred
  induction l generalizing s with
  | nil => rfl
  | cons e l ih => simp [ih]
@[simp] theorem applyDeferred_arb (l : List (Bank × Nat × DisturbanceKind)) (s : State) :
    (applyDeferred l s).arb = s.arb := by
  unfold applyDeferred
  induction l generalizing s with
  | nil => rfl
  | cons e l ih => simp [ih]
@[simp] theorem applyDeferred_sweep (l : List (Bank × Nat × DisturbanceKind)) (s : State) :
    (applyDeferred l s).sweep = s.sweep := by
  unfold applyDeferred
  induction l generalizing s with
  | nil => rfl
  | cons e l ih => simp [ih]
@[simp] theorem applyDeferred_phrases (l : List (Bank × Nat × DisturbanceKind)) (s : State) :
    (applyDeferred l s).phrases = s.phrases := by
  unfold applyDeferred
  induction l generalizing s with
  | nil => rfl
  | cons e l ih => simp [ih]
@[simp] theorem applyDeferred_clock (l : List (Bank × Nat × DisturbanceKind)) (s : State) :
    (applyDeferred l s).clock = s.clock := by
  unfold applyDeferred
  induction l generalizing s with
  | nil => rfl
  | cons e l ih => simp [ih]
@[simp] theorem applyDeferred_retire (l : List (Bank × Nat × DisturbanceKind)) (s : State) :
    (applyDeferred l s).retire = s.retire := by
  unfold applyDeferred
  induction l generalizing s with
  | nil => rfl
  | cons e l ih => simp [ih]
@[simp] theorem applyDeferred_views (l : List (Bank × Nat × DisturbanceKind)) (s : State) :
    (applyDeferred l s).views = s.views := by
  unfold applyDeferred
  induction l generalizing s with
  | nil => rfl
  | cons e l ih => simp [ih]
@[simp] theorem applyDeferred_composer (l : List (Bank × Nat × DisturbanceKind)) (s : State) :
    (applyDeferred l s).composer = s.composer := by
  unfold applyDeferred
  induction l generalizing s with
  | nil => rfl
  | cons e l ih => simp [ih]
@[simp] theorem applyDeferred_links (l : List (Bank × Nat × DisturbanceKind)) (s : State) :
    (applyDeferred l s).links = s.links := by
  unfold applyDeferred
  induction l generalizing s with
  | nil => rfl
  | cons e l ih => simp [ih]
@[simp] theorem applyDeferred_events (l : List (Bank × Nat × DisturbanceKind)) (s : State) :
    (applyDeferred l s).events = s.events := by
  unfold applyDeferred
  induction l generalizing s with
  | nil => rfl
  | cons e l ih => simp [ih]

/-! ## endGrant -/

@[simp] theorem endGrant_pending (s : State) : (endGrant s).pending = s.pending := by
  simp only [endGrant]; split <;> simp
@[simp] theorem endGrant_inReset (s : State) : (endGrant s).inReset = s.inReset := by
  simp only [endGrant]; split <;> simp
@[simp] theorem endGrant_port (s : State) : (endGrant s).port = s.port := by
  simp only [endGrant]; split <;> simp
@[simp] theorem endGrant_cmd (s : State) : (endGrant s).cmd = s.cmd := by
  simp only [endGrant]; split <;> simp
@[simp] theorem endGrant_dir (s : State) : (endGrant s).dir = s.dir := by
  simp only [endGrant]; split <;> simp
@[simp] theorem endGrant_store (s : State) : (endGrant s).store = s.store := by
  simp only [endGrant]; split <;> simp
@[simp] theorem endGrant_phrases (s : State) : (endGrant s).phrases = s.phrases := by
  simp only [endGrant]; split <;> simp
@[simp] theorem endGrant_clock (s : State) : (endGrant s).clock = s.clock := by
  simp only [endGrant]; split <;> simp
@[simp] theorem endGrant_retire (s : State) : (endGrant s).retire = s.retire := by
  simp only [endGrant]; split <;> simp
@[simp] theorem endGrant_views (s : State) : (endGrant s).views = s.views := by
  simp only [endGrant]; split <;> simp
@[simp] theorem endGrant_composer (s : State) : (endGrant s).composer = s.composer := by
  simp only [endGrant]; split <;> simp
@[simp] theorem endGrant_links (s : State) : (endGrant s).links = s.links := by
  simp only [endGrant]; split <;> simp
@[simp] theorem endGrant_events (s : State) : (endGrant s).events = s.events := by
  simp only [endGrant]; split <;> simp

/-! ## setProgress -/

@[simp] theorem setProgress_pending (g : Grant) (p : Progress) (s : State) : (setProgress g p s).pending = s.pending := by
  simp [setProgress]
@[simp] theorem setProgress_inReset (g : Grant) (p : Progress) (s : State) : (setProgress g p s).inReset = s.inReset := by
  simp [setProgress]
@[simp] theorem setProgress_port (g : Grant) (p : Progress) (s : State) : (setProgress g p s).port = s.port := by
  simp [setProgress]
@[simp] theorem setProgress_cmd (g : Grant) (p : Progress) (s : State) : (setProgress g p s).cmd = s.cmd := by
  simp [setProgress]
@[simp] theorem setProgress_dir (g : Grant) (p : Progress) (s : State) : (setProgress g p s).dir = s.dir := by
  simp [setProgress]
@[simp] theorem setProgress_mem (g : Grant) (p : Progress) (s : State) : (setProgress g p s).mem = s.mem := by
  simp [setProgress]
@[simp] theorem setProgress_store (g : Grant) (p : Progress) (s : State) : (setProgress g p s).store = s.store := by
  simp [setProgress]
@[simp] theorem setProgress_sweep (g : Grant) (p : Progress) (s : State) : (setProgress g p s).sweep = s.sweep := by
  simp [setProgress]
@[simp] theorem setProgress_phrases (g : Grant) (p : Progress) (s : State) : (setProgress g p s).phrases = s.phrases := by
  simp [setProgress]
@[simp] theorem setProgress_clock (g : Grant) (p : Progress) (s : State) : (setProgress g p s).clock = s.clock := by
  simp [setProgress]
@[simp] theorem setProgress_retire (g : Grant) (p : Progress) (s : State) : (setProgress g p s).retire = s.retire := by
  simp [setProgress]
@[simp] theorem setProgress_views (g : Grant) (p : Progress) (s : State) : (setProgress g p s).views = s.views := by
  simp [setProgress]
@[simp] theorem setProgress_composer (g : Grant) (p : Progress) (s : State) : (setProgress g p s).composer = s.composer := by
  simp [setProgress]
@[simp] theorem setProgress_links (g : Grant) (p : Progress) (s : State) : (setProgress g p s).links = s.links := by
  simp [setProgress]
@[simp] theorem setProgress_events (g : Grant) (p : Progress) (s : State) : (setProgress g p s).events = s.events := by
  simp [setProgress]

/-! ## arriveDisturbance -/

@[simp] theorem arriveDisturbance_pending (b : Bank) (n : Nat) (k : DisturbanceKind) (s : State) : (arriveDisturbance b n k s).pending = s.pending := by
  unfold arriveDisturbance; split <;> try split
  all_goals simp
@[simp] theorem arriveDisturbance_inReset (b : Bank) (n : Nat) (k : DisturbanceKind) (s : State) : (arriveDisturbance b n k s).inReset = s.inReset := by
  unfold arriveDisturbance; split <;> try split
  all_goals simp
@[simp] theorem arriveDisturbance_port (b : Bank) (n : Nat) (k : DisturbanceKind) (s : State) : (arriveDisturbance b n k s).port = s.port := by
  unfold arriveDisturbance; split <;> try split
  all_goals simp
@[simp] theorem arriveDisturbance_cmd (b : Bank) (n : Nat) (k : DisturbanceKind) (s : State) : (arriveDisturbance b n k s).cmd = s.cmd := by
  unfold arriveDisturbance; split <;> try split
  all_goals simp
@[simp] theorem arriveDisturbance_dir (b : Bank) (n : Nat) (k : DisturbanceKind) (s : State) : (arriveDisturbance b n k s).dir = s.dir := by
  unfold arriveDisturbance; split <;> try split
  all_goals simp
@[simp] theorem arriveDisturbance_store (b : Bank) (n : Nat) (k : DisturbanceKind) (s : State) : (arriveDisturbance b n k s).store = s.store := by
  unfold arriveDisturbance; split <;> try split
  all_goals simp
@[simp] theorem arriveDisturbance_sweep (b : Bank) (n : Nat) (k : DisturbanceKind) (s : State) : (arriveDisturbance b n k s).sweep = s.sweep := by
  unfold arriveDisturbance; split <;> try split
  all_goals simp
@[simp] theorem arriveDisturbance_phrases (b : Bank) (n : Nat) (k : DisturbanceKind) (s : State) : (arriveDisturbance b n k s).phrases = s.phrases := by
  unfold arriveDisturbance; split <;> try split
  all_goals simp
@[simp] theorem arriveDisturbance_clock (b : Bank) (n : Nat) (k : DisturbanceKind) (s : State) : (arriveDisturbance b n k s).clock = s.clock := by
  unfold arriveDisturbance; split <;> try split
  all_goals simp
@[simp] theorem arriveDisturbance_retire (b : Bank) (n : Nat) (k : DisturbanceKind) (s : State) : (arriveDisturbance b n k s).retire = s.retire := by
  unfold arriveDisturbance; split <;> try split
  all_goals simp
@[simp] theorem arriveDisturbance_views (b : Bank) (n : Nat) (k : DisturbanceKind) (s : State) : (arriveDisturbance b n k s).views = s.views := by
  unfold arriveDisturbance; split <;> try split
  all_goals simp
@[simp] theorem arriveDisturbance_composer (b : Bank) (n : Nat) (k : DisturbanceKind) (s : State) : (arriveDisturbance b n k s).composer = s.composer := by
  unfold arriveDisturbance; split <;> try split
  all_goals simp
@[simp] theorem arriveDisturbance_links (b : Bank) (n : Nat) (k : DisturbanceKind) (s : State) : (arriveDisturbance b n k s).links = s.links := by
  unfold arriveDisturbance; split <;> try split
  all_goals simp
@[simp] theorem arriveDisturbance_events (b : Bank) (n : Nat) (k : DisturbanceKind) (s : State) : (arriveDisturbance b n k s).events = s.events := by
  unfold arriveDisturbance; split <;> try split
  all_goals simp

/-! ## complete -/

@[simp] theorem complete_pending (rc : ResultCode) (out : Option (List Byte)) (q : Bool) (s : State) : (complete rc out q s).pending = s.pending := by
  simp [complete]
@[simp] theorem complete_inReset (rc : ResultCode) (out : Option (List Byte)) (q : Bool) (s : State) : (complete rc out q s).inReset = s.inReset := by
  simp [complete]
@[simp] theorem complete_dir (rc : ResultCode) (out : Option (List Byte)) (q : Bool) (s : State) : (complete rc out q s).dir = s.dir := by
  simp [complete]
@[simp] theorem complete_mem (rc : ResultCode) (out : Option (List Byte)) (q : Bool) (s : State) : (complete rc out q s).mem = s.mem := by
  simp [complete]
@[simp] theorem complete_store (rc : ResultCode) (out : Option (List Byte)) (q : Bool) (s : State) : (complete rc out q s).store = s.store := by
  simp [complete]
@[simp] theorem complete_arb (rc : ResultCode) (out : Option (List Byte)) (q : Bool) (s : State) : (complete rc out q s).arb = s.arb := by
  simp [complete]
@[simp] theorem complete_sweep (rc : ResultCode) (out : Option (List Byte)) (q : Bool) (s : State) : (complete rc out q s).sweep = s.sweep := by
  simp [complete]
@[simp] theorem complete_phrases (rc : ResultCode) (out : Option (List Byte)) (q : Bool) (s : State) : (complete rc out q s).phrases = s.phrases := by
  simp [complete]
@[simp] theorem complete_clock (rc : ResultCode) (out : Option (List Byte)) (q : Bool) (s : State) : (complete rc out q s).clock = s.clock := by
  simp [complete]
@[simp] theorem complete_retire (rc : ResultCode) (out : Option (List Byte)) (q : Bool) (s : State) : (complete rc out q s).retire = s.retire := by
  simp [complete]
@[simp] theorem complete_views (rc : ResultCode) (out : Option (List Byte)) (q : Bool) (s : State) : (complete rc out q s).views = s.views := by
  simp [complete]
@[simp] theorem complete_composer (rc : ResultCode) (out : Option (List Byte)) (q : Bool) (s : State) : (complete rc out q s).composer = s.composer := by
  simp [complete]
@[simp] theorem complete_links (rc : ResultCode) (out : Option (List Byte)) (q : Bool) (s : State) : (complete rc out q s).links = s.links := by
  simp [complete]
@[simp] theorem complete_events (rc : ResultCode) (out : Option (List Byte)) (q : Bool) (s : State) : (complete rc out q s).events = s.events := by
  simp [complete]

/-! ## refuse -/

@[simp] theorem refuse_pending (rc : ResultCode) (s : State) : (refuse rc s).pending = s.pending := by
  simp [refuse]
@[simp] theorem refuse_inReset (rc : ResultCode) (s : State) : (refuse rc s).inReset = s.inReset := by
  simp [refuse]
@[simp] theorem refuse_dir (rc : ResultCode) (s : State) : (refuse rc s).dir = s.dir := by
  simp [refuse]
@[simp] theorem refuse_mem (rc : ResultCode) (s : State) : (refuse rc s).mem = s.mem := by
  simp [refuse]
@[simp] theorem refuse_store (rc : ResultCode) (s : State) : (refuse rc s).store = s.store := by
  simp [refuse]
@[simp] theorem refuse_arb (rc : ResultCode) (s : State) : (refuse rc s).arb = s.arb := by
  simp [refuse]
@[simp] theorem refuse_sweep (rc : ResultCode) (s : State) : (refuse rc s).sweep = s.sweep := by
  simp [refuse]
@[simp] theorem refuse_phrases (rc : ResultCode) (s : State) : (refuse rc s).phrases = s.phrases := by
  simp [refuse]
@[simp] theorem refuse_clock (rc : ResultCode) (s : State) : (refuse rc s).clock = s.clock := by
  simp [refuse]
@[simp] theorem refuse_retire (rc : ResultCode) (s : State) : (refuse rc s).retire = s.retire := by
  simp [refuse]
@[simp] theorem refuse_views (rc : ResultCode) (s : State) : (refuse rc s).views = s.views := by
  simp [refuse]
@[simp] theorem refuse_composer (rc : ResultCode) (s : State) : (refuse rc s).composer = s.composer := by
  simp [refuse]
@[simp] theorem refuse_links (rc : ResultCode) (s : State) : (refuse rc s).links = s.links := by
  simp [refuse]
@[simp] theorem refuse_events (rc : ResultCode) (s : State) : (refuse rc s).events = s.events := by
  simp [refuse]

/-! ## done -/

@[simp] theorem done_pending (out : Option (List Byte)) (q : Bool) (s : State) : (done out q s).pending = s.pending := by
  simp [done]
@[simp] theorem done_inReset (out : Option (List Byte)) (q : Bool) (s : State) : (done out q s).inReset = s.inReset := by
  simp [done]
@[simp] theorem done_dir (out : Option (List Byte)) (q : Bool) (s : State) : (done out q s).dir = s.dir := by
  simp [done]
@[simp] theorem done_mem (out : Option (List Byte)) (q : Bool) (s : State) : (done out q s).mem = s.mem := by
  simp [done]
@[simp] theorem done_store (out : Option (List Byte)) (q : Bool) (s : State) : (done out q s).store = s.store := by
  simp [done]
@[simp] theorem done_arb (out : Option (List Byte)) (q : Bool) (s : State) : (done out q s).arb = s.arb := by
  simp [done]
@[simp] theorem done_sweep (out : Option (List Byte)) (q : Bool) (s : State) : (done out q s).sweep = s.sweep := by
  simp [done]
@[simp] theorem done_phrases (out : Option (List Byte)) (q : Bool) (s : State) : (done out q s).phrases = s.phrases := by
  simp [done]
@[simp] theorem done_clock (out : Option (List Byte)) (q : Bool) (s : State) : (done out q s).clock = s.clock := by
  simp [done]
@[simp] theorem done_retire (out : Option (List Byte)) (q : Bool) (s : State) : (done out q s).retire = s.retire := by
  simp [done]
@[simp] theorem done_views (out : Option (List Byte)) (q : Bool) (s : State) : (done out q s).views = s.views := by
  simp [done]
@[simp] theorem done_composer (out : Option (List Byte)) (q : Bool) (s : State) : (done out q s).composer = s.composer := by
  simp [done]
@[simp] theorem done_links (out : Option (List Byte)) (q : Bool) (s : State) : (done out q s).links = s.links := by
  simp [done]
@[simp] theorem done_events (out : Option (List Byte)) (q : Bool) (s : State) : (done out q s).events = s.events := by
  simp [done]

/-! ## completeGrant -/

@[simp] theorem completeGrant_pending (rc : ResultCode) (out : Option (List Byte)) (q : Bool) (s : State) : (completeGrant rc out q s).pending = s.pending := by
  simp [completeGrant]
@[simp] theorem completeGrant_inReset (rc : ResultCode) (out : Option (List Byte)) (q : Bool) (s : State) : (completeGrant rc out q s).inReset = s.inReset := by
  simp [completeGrant]
@[simp] theorem completeGrant_dir (rc : ResultCode) (out : Option (List Byte)) (q : Bool) (s : State) : (completeGrant rc out q s).dir = s.dir := by
  simp [completeGrant]
@[simp] theorem completeGrant_store (rc : ResultCode) (out : Option (List Byte)) (q : Bool) (s : State) : (completeGrant rc out q s).store = s.store := by
  simp [completeGrant]
@[simp] theorem completeGrant_phrases (rc : ResultCode) (out : Option (List Byte)) (q : Bool) (s : State) : (completeGrant rc out q s).phrases = s.phrases := by
  simp [completeGrant]
@[simp] theorem completeGrant_clock (rc : ResultCode) (out : Option (List Byte)) (q : Bool) (s : State) : (completeGrant rc out q s).clock = s.clock := by
  simp [completeGrant]
@[simp] theorem completeGrant_retire (rc : ResultCode) (out : Option (List Byte)) (q : Bool) (s : State) : (completeGrant rc out q s).retire = s.retire := by
  simp [completeGrant]
@[simp] theorem completeGrant_views (rc : ResultCode) (out : Option (List Byte)) (q : Bool) (s : State) : (completeGrant rc out q s).views = s.views := by
  simp [completeGrant]
@[simp] theorem completeGrant_composer (rc : ResultCode) (out : Option (List Byte)) (q : Bool) (s : State) : (completeGrant rc out q s).composer = s.composer := by
  simp [completeGrant]
@[simp] theorem completeGrant_links (rc : ResultCode) (out : Option (List Byte)) (q : Bool) (s : State) : (completeGrant rc out q s).links = s.links := by
  simp [completeGrant]
@[simp] theorem completeGrant_events (rc : ResultCode) (out : Option (List Byte)) (q : Bool) (s : State) : (completeGrant rc out q s).events = s.events := by
  simp [completeGrant]

/-! ## refuseGrant -/

@[simp] theorem refuseGrant_pending (rc : ResultCode) (s : State) : (refuseGrant rc s).pending = s.pending := by
  simp [refuseGrant]
@[simp] theorem refuseGrant_inReset (rc : ResultCode) (s : State) : (refuseGrant rc s).inReset = s.inReset := by
  simp [refuseGrant]
@[simp] theorem refuseGrant_dir (rc : ResultCode) (s : State) : (refuseGrant rc s).dir = s.dir := by
  simp [refuseGrant]
@[simp] theorem refuseGrant_store (rc : ResultCode) (s : State) : (refuseGrant rc s).store = s.store := by
  simp [refuseGrant]
@[simp] theorem refuseGrant_phrases (rc : ResultCode) (s : State) : (refuseGrant rc s).phrases = s.phrases := by
  simp [refuseGrant]
@[simp] theorem refuseGrant_clock (rc : ResultCode) (s : State) : (refuseGrant rc s).clock = s.clock := by
  simp [refuseGrant]
@[simp] theorem refuseGrant_retire (rc : ResultCode) (s : State) : (refuseGrant rc s).retire = s.retire := by
  simp [refuseGrant]
@[simp] theorem refuseGrant_views (rc : ResultCode) (s : State) : (refuseGrant rc s).views = s.views := by
  simp [refuseGrant]
@[simp] theorem refuseGrant_composer (rc : ResultCode) (s : State) : (refuseGrant rc s).composer = s.composer := by
  simp [refuseGrant]
@[simp] theorem refuseGrant_links (rc : ResultCode) (s : State) : (refuseGrant rc s).links = s.links := by
  simp [refuseGrant]
@[simp] theorem refuseGrant_events (rc : ResultCode) (s : State) : (refuseGrant rc s).events = s.events := by
  simp [refuseGrant]

/-! ## holdForGrant -/

@[simp] theorem holdForGrant_pending (c : InFlight) (s : State) : (holdForGrant c s).pending = s.pending := by
  simp [holdForGrant]
@[simp] theorem holdForGrant_inReset (c : InFlight) (s : State) : (holdForGrant c s).inReset = s.inReset := by
  simp [holdForGrant]
@[simp] theorem holdForGrant_port (c : InFlight) (s : State) : (holdForGrant c s).port = s.port := by
  simp [holdForGrant]
@[simp] theorem holdForGrant_dir (c : InFlight) (s : State) : (holdForGrant c s).dir = s.dir := by
  simp [holdForGrant]
@[simp] theorem holdForGrant_mem (c : InFlight) (s : State) : (holdForGrant c s).mem = s.mem := by
  simp [holdForGrant]
@[simp] theorem holdForGrant_store (c : InFlight) (s : State) : (holdForGrant c s).store = s.store := by
  simp [holdForGrant]
@[simp] theorem holdForGrant_phrases (c : InFlight) (s : State) : (holdForGrant c s).phrases = s.phrases := by
  simp [holdForGrant]
@[simp] theorem holdForGrant_clock (c : InFlight) (s : State) : (holdForGrant c s).clock = s.clock := by
  simp [holdForGrant]
@[simp] theorem holdForGrant_retire (c : InFlight) (s : State) : (holdForGrant c s).retire = s.retire := by
  simp [holdForGrant]
@[simp] theorem holdForGrant_views (c : InFlight) (s : State) : (holdForGrant c s).views = s.views := by
  simp [holdForGrant]
@[simp] theorem holdForGrant_composer (c : InFlight) (s : State) : (holdForGrant c s).composer = s.composer := by
  simp [holdForGrant]
@[simp] theorem holdForGrant_links (c : InFlight) (s : State) : (holdForGrant c s).links = s.links := by
  simp [holdForGrant]
@[simp] theorem holdForGrant_events (c : InFlight) (s : State) : (holdForGrant c s).events = s.events := by
  simp [holdForGrant]

/-! ## writeCopy -/

@[simp] theorem writeCopy_pending (b : Bank) (n : Nat) (v : Contents) (s : State) : (writeCopy b n v s).pending = s.pending := by
  simp [writeCopy]
@[simp] theorem writeCopy_inReset (b : Bank) (n : Nat) (v : Contents) (s : State) : (writeCopy b n v s).inReset = s.inReset := by
  simp [writeCopy]
@[simp] theorem writeCopy_port (b : Bank) (n : Nat) (v : Contents) (s : State) : (writeCopy b n v s).port = s.port := by
  simp [writeCopy]
@[simp] theorem writeCopy_cmd (b : Bank) (n : Nat) (v : Contents) (s : State) : (writeCopy b n v s).cmd = s.cmd := by
  simp [writeCopy]
@[simp] theorem writeCopy_dir (b : Bank) (n : Nat) (v : Contents) (s : State) : (writeCopy b n v s).dir = s.dir := by
  simp [writeCopy]
@[simp] theorem writeCopy_store (b : Bank) (n : Nat) (v : Contents) (s : State) : (writeCopy b n v s).store = s.store := by
  simp [writeCopy]
@[simp] theorem writeCopy_arb (b : Bank) (n : Nat) (v : Contents) (s : State) : (writeCopy b n v s).arb = s.arb := by
  simp [writeCopy]
@[simp] theorem writeCopy_sweep (b : Bank) (n : Nat) (v : Contents) (s : State) : (writeCopy b n v s).sweep = s.sweep := by
  simp [writeCopy]
@[simp] theorem writeCopy_phrases (b : Bank) (n : Nat) (v : Contents) (s : State) : (writeCopy b n v s).phrases = s.phrases := by
  simp [writeCopy]
@[simp] theorem writeCopy_clock (b : Bank) (n : Nat) (v : Contents) (s : State) : (writeCopy b n v s).clock = s.clock := by
  simp [writeCopy]
@[simp] theorem writeCopy_retire (b : Bank) (n : Nat) (v : Contents) (s : State) : (writeCopy b n v s).retire = s.retire := by
  simp [writeCopy]
@[simp] theorem writeCopy_views (b : Bank) (n : Nat) (v : Contents) (s : State) : (writeCopy b n v s).views = s.views := by
  simp [writeCopy]
@[simp] theorem writeCopy_composer (b : Bank) (n : Nat) (v : Contents) (s : State) : (writeCopy b n v s).composer = s.composer := by
  simp [writeCopy]
@[simp] theorem writeCopy_links (b : Bank) (n : Nat) (v : Contents) (s : State) : (writeCopy b n v s).links = s.links := by
  simp [writeCopy]
@[simp] theorem writeCopy_events (b : Bank) (n : Nat) (v : Contents) (s : State) : (writeCopy b n v s).events = s.events := by
  simp [writeCopy]

/-! ## setSweepTimer -/

@[simp] theorem setSweepTimer_pending (s : State) : (setSweepTimer s).pending = s.pending := by
  simp [setSweepTimer]
@[simp] theorem setSweepTimer_inReset (s : State) : (setSweepTimer s).inReset = s.inReset := by
  simp [setSweepTimer]
@[simp] theorem setSweepTimer_port (s : State) : (setSweepTimer s).port = s.port := by
  simp [setSweepTimer]
@[simp] theorem setSweepTimer_cmd (s : State) : (setSweepTimer s).cmd = s.cmd := by
  simp [setSweepTimer]
@[simp] theorem setSweepTimer_dir (s : State) : (setSweepTimer s).dir = s.dir := by
  simp [setSweepTimer]
@[simp] theorem setSweepTimer_mem (s : State) : (setSweepTimer s).mem = s.mem := by
  simp [setSweepTimer]
@[simp] theorem setSweepTimer_store (s : State) : (setSweepTimer s).store = s.store := by
  simp [setSweepTimer]
@[simp] theorem setSweepTimer_arb (s : State) : (setSweepTimer s).arb = s.arb := by
  simp [setSweepTimer]
@[simp] theorem setSweepTimer_phrases (s : State) : (setSweepTimer s).phrases = s.phrases := by
  simp [setSweepTimer]
@[simp] theorem setSweepTimer_clock (s : State) : (setSweepTimer s).clock = s.clock := by
  simp [setSweepTimer]
@[simp] theorem setSweepTimer_retire (s : State) : (setSweepTimer s).retire = s.retire := by
  simp [setSweepTimer]
@[simp] theorem setSweepTimer_views (s : State) : (setSweepTimer s).views = s.views := by
  simp [setSweepTimer]
@[simp] theorem setSweepTimer_composer (s : State) : (setSweepTimer s).composer = s.composer := by
  simp [setSweepTimer]
@[simp] theorem setSweepTimer_links (s : State) : (setSweepTimer s).links = s.links := by
  simp [setSweepTimer]
@[simp] theorem setSweepTimer_events (s : State) : (setSweepTimer s).events = s.events := by
  simp [setSweepTimer]

/-! ## startSweep -/

@[simp] theorem startSweep_pending (s : State) : (startSweep s).pending = s.pending := by
  unfold startSweep; split <;> simp
@[simp] theorem startSweep_inReset (s : State) : (startSweep s).inReset = s.inReset := by
  unfold startSweep; split <;> simp
@[simp] theorem startSweep_port (s : State) : (startSweep s).port = s.port := by
  unfold startSweep; split <;> simp
@[simp] theorem startSweep_cmd (s : State) : (startSweep s).cmd = s.cmd := by
  unfold startSweep; split <;> simp
@[simp] theorem startSweep_dir (s : State) : (startSweep s).dir = s.dir := by
  unfold startSweep; split <;> simp
@[simp] theorem startSweep_mem (s : State) : (startSweep s).mem = s.mem := by
  unfold startSweep; split <;> simp
@[simp] theorem startSweep_store (s : State) : (startSweep s).store = s.store := by
  unfold startSweep; split <;> simp
@[simp] theorem startSweep_arb (s : State) : (startSweep s).arb = s.arb := by
  unfold startSweep; split <;> simp
@[simp] theorem startSweep_phrases (s : State) : (startSweep s).phrases = s.phrases := by
  unfold startSweep; split <;> simp
@[simp] theorem startSweep_clock (s : State) : (startSweep s).clock = s.clock := by
  unfold startSweep; split <;> simp
@[simp] theorem startSweep_retire (s : State) : (startSweep s).retire = s.retire := by
  unfold startSweep; split <;> simp
@[simp] theorem startSweep_views (s : State) : (startSweep s).views = s.views := by
  unfold startSweep; split <;> simp
@[simp] theorem startSweep_composer (s : State) : (startSweep s).composer = s.composer := by
  unfold startSweep; split <;> simp
@[simp] theorem startSweep_links (s : State) : (startSweep s).links = s.links := by
  unfold startSweep; split <;> simp
@[simp] theorem startSweep_events (s : State) : (startSweep s).events = s.events := by
  unfold startSweep; split <;> simp

/-! ## stopSweep -/

@[simp] theorem stopSweep_pending (s : State) : (stopSweep s).pending = s.pending := by
  simp [stopSweep]
@[simp] theorem stopSweep_inReset (s : State) : (stopSweep s).inReset = s.inReset := by
  simp [stopSweep]
@[simp] theorem stopSweep_port (s : State) : (stopSweep s).port = s.port := by
  simp [stopSweep]
@[simp] theorem stopSweep_cmd (s : State) : (stopSweep s).cmd = s.cmd := by
  simp [stopSweep]
@[simp] theorem stopSweep_dir (s : State) : (stopSweep s).dir = s.dir := by
  simp [stopSweep]
@[simp] theorem stopSweep_mem (s : State) : (stopSweep s).mem = s.mem := by
  simp [stopSweep]
@[simp] theorem stopSweep_store (s : State) : (stopSweep s).store = s.store := by
  simp [stopSweep]
@[simp] theorem stopSweep_phrases (s : State) : (stopSweep s).phrases = s.phrases := by
  simp [stopSweep]
@[simp] theorem stopSweep_clock (s : State) : (stopSweep s).clock = s.clock := by
  simp [stopSweep]
@[simp] theorem stopSweep_retire (s : State) : (stopSweep s).retire = s.retire := by
  simp [stopSweep]
@[simp] theorem stopSweep_views (s : State) : (stopSweep s).views = s.views := by
  simp [stopSweep]
@[simp] theorem stopSweep_composer (s : State) : (stopSweep s).composer = s.composer := by
  simp [stopSweep]
@[simp] theorem stopSweep_links (s : State) : (stopSweep s).links = s.links := by
  simp [stopSweep]
@[simp] theorem stopSweep_events (s : State) : (stopSweep s).events = s.events := by
  simp [stopSweep]

/-! ## failStore -/

@[simp] theorem failStore_pending (b : Option Bank) (n : Nat) (k : Option Nat) (op : Operation) (s : State) :
    (failStore b n k op s).pending = s.pending := by
  simp [failStore]
@[simp] theorem failStore_inReset (b : Option Bank) (n : Nat) (k : Option Nat) (op : Operation) (s : State) :
    (failStore b n k op s).inReset = s.inReset := by
  simp [failStore]
@[simp] theorem failStore_port (b : Option Bank) (n : Nat) (k : Option Nat) (op : Operation) (s : State) :
    (failStore b n k op s).port = s.port := by
  simp [failStore]
@[simp] theorem failStore_cmd (b : Option Bank) (n : Nat) (k : Option Nat) (op : Operation) (s : State) :
    (failStore b n k op s).cmd = s.cmd := by
  simp [failStore]
@[simp] theorem failStore_mem (b : Option Bank) (n : Nat) (k : Option Nat) (op : Operation) (s : State) :
    (failStore b n k op s).mem = s.mem := by
  simp [failStore]
@[simp] theorem failStore_clock (b : Option Bank) (n : Nat) (k : Option Nat) (op : Operation) (s : State) :
    (failStore b n k op s).clock = s.clock := by
  simp [failStore]
@[simp] theorem failStore_retire (b : Option Bank) (n : Nat) (k : Option Nat) (op : Operation) (s : State) :
    (failStore b n k op s).retire = s.retire := by
  simp [failStore]
@[simp] theorem failStore_views (b : Option Bank) (n : Nat) (k : Option Nat) (op : Operation) (s : State) :
    (failStore b n k op s).views = s.views := by
  simp [failStore]
@[simp] theorem failStore_composer (b : Option Bank) (n : Nat) (k : Option Nat) (op : Operation) (s : State) :
    (failStore b n k op s).composer = s.composer := by
  simp [failStore]
@[simp] theorem failStore_links (b : Option Bank) (n : Nat) (k : Option Nat) (op : Operation) (s : State) :
    (failStore b n k op s).links = s.links := by
  simp [failStore]

/-! ## loseBank -/

@[simp] theorem loseBank_pending (b : Bank) (n : Nat) (k : Option Nat) (op : Operation) (s : State) :
    (loseBank b n k op s).pending = s.pending := by
  simp [loseBank]
@[simp] theorem loseBank_inReset (b : Bank) (n : Nat) (k : Option Nat) (op : Operation) (s : State) :
    (loseBank b n k op s).inReset = s.inReset := by
  simp [loseBank]
@[simp] theorem loseBank_port (b : Bank) (n : Nat) (k : Option Nat) (op : Operation) (s : State) :
    (loseBank b n k op s).port = s.port := by
  simp [loseBank]
@[simp] theorem loseBank_cmd (b : Bank) (n : Nat) (k : Option Nat) (op : Operation) (s : State) :
    (loseBank b n k op s).cmd = s.cmd := by
  simp [loseBank]
@[simp] theorem loseBank_dir (b : Bank) (n : Nat) (k : Option Nat) (op : Operation) (s : State) :
    (loseBank b n k op s).dir = s.dir := by
  simp [loseBank]
@[simp] theorem loseBank_mem (b : Bank) (n : Nat) (k : Option Nat) (op : Operation) (s : State) :
    (loseBank b n k op s).mem = s.mem := by
  simp [loseBank]
@[simp] theorem loseBank_arb (b : Bank) (n : Nat) (k : Option Nat) (op : Operation) (s : State) :
    (loseBank b n k op s).arb = s.arb := by
  simp [loseBank]
@[simp] theorem loseBank_sweep (b : Bank) (n : Nat) (k : Option Nat) (op : Operation) (s : State) :
    (loseBank b n k op s).sweep = s.sweep := by
  simp [loseBank]
@[simp] theorem loseBank_phrases (b : Bank) (n : Nat) (k : Option Nat) (op : Operation) (s : State) :
    (loseBank b n k op s).phrases = s.phrases := by
  simp [loseBank]
@[simp] theorem loseBank_clock (b : Bank) (n : Nat) (k : Option Nat) (op : Operation) (s : State) :
    (loseBank b n k op s).clock = s.clock := by
  simp [loseBank]
@[simp] theorem loseBank_retire (b : Bank) (n : Nat) (k : Option Nat) (op : Operation) (s : State) :
    (loseBank b n k op s).retire = s.retire := by
  simp [loseBank]
@[simp] theorem loseBank_views (b : Bank) (n : Nat) (k : Option Nat) (op : Operation) (s : State) :
    (loseBank b n k op s).views = s.views := by
  simp [loseBank]
@[simp] theorem loseBank_composer (b : Bank) (n : Nat) (k : Option Nat) (op : Operation) (s : State) :
    (loseBank b n k op s).composer = s.composer := by
  simp [loseBank]
@[simp] theorem loseBank_links (b : Bank) (n : Nat) (k : Option Nat) (op : Operation) (s : State) :
    (loseBank b n k op s).links = s.links := by
  simp [loseBank]

/-! ## returnToOrigin -/

@[simp] theorem returnToOrigin_pending (s : State) : (returnToOrigin s).pending = s.pending := by
  simp [returnToOrigin]
@[simp] theorem returnToOrigin_inReset (s : State) : (returnToOrigin s).inReset = s.inReset := by
  simp [returnToOrigin]
@[simp] theorem returnToOrigin_port (s : State) : (returnToOrigin s).port = s.port := by
  simp [returnToOrigin]
@[simp] theorem returnToOrigin_cmd (s : State) : (returnToOrigin s).cmd = s.cmd := by
  simp [returnToOrigin]
@[simp] theorem returnToOrigin_dir (s : State) : (returnToOrigin s).dir = s.dir := by
  simp [returnToOrigin]
@[simp] theorem returnToOrigin_mem (s : State) : (returnToOrigin s).mem = s.mem := by
  simp [returnToOrigin]
@[simp] theorem returnToOrigin_phrases (s : State) : (returnToOrigin s).phrases = s.phrases := by
  simp [returnToOrigin]
@[simp] theorem returnToOrigin_clock (s : State) : (returnToOrigin s).clock = s.clock := by
  simp [returnToOrigin]
@[simp] theorem returnToOrigin_retire (s : State) : (returnToOrigin s).retire = s.retire := by
  simp [returnToOrigin]
@[simp] theorem returnToOrigin_views (s : State) : (returnToOrigin s).views = s.views := by
  simp [returnToOrigin]
@[simp] theorem returnToOrigin_composer (s : State) : (returnToOrigin s).composer = s.composer := by
  simp [returnToOrigin]
@[simp] theorem returnToOrigin_links (s : State) : (returnToOrigin s).links = s.links := by
  simp [returnToOrigin]
@[simp] theorem returnToOrigin_events (s : State) : (returnToOrigin s).events = s.events := by
  simp [returnToOrigin]

/-! ## failRebuild -/

@[simp] theorem failRebuild_pending (n : Nat) (op : Operation) (s : State) : (failRebuild n op s).pending = s.pending := by
  simp [failRebuild]
@[simp] theorem failRebuild_inReset (n : Nat) (op : Operation) (s : State) : (failRebuild n op s).inReset = s.inReset := by
  simp [failRebuild]
@[simp] theorem failRebuild_port (n : Nat) (op : Operation) (s : State) : (failRebuild n op s).port = s.port := by
  simp [failRebuild]
@[simp] theorem failRebuild_cmd (n : Nat) (op : Operation) (s : State) : (failRebuild n op s).cmd = s.cmd := by
  simp [failRebuild]
@[simp] theorem failRebuild_dir (n : Nat) (op : Operation) (s : State) : (failRebuild n op s).dir = s.dir := by
  simp [failRebuild]
@[simp] theorem failRebuild_mem (n : Nat) (op : Operation) (s : State) : (failRebuild n op s).mem = s.mem := by
  simp [failRebuild]
@[simp] theorem failRebuild_phrases (n : Nat) (op : Operation) (s : State) : (failRebuild n op s).phrases = s.phrases := by
  simp [failRebuild]
@[simp] theorem failRebuild_clock (n : Nat) (op : Operation) (s : State) : (failRebuild n op s).clock = s.clock := by
  simp [failRebuild]
@[simp] theorem failRebuild_retire (n : Nat) (op : Operation) (s : State) : (failRebuild n op s).retire = s.retire := by
  simp [failRebuild]
@[simp] theorem failRebuild_views (n : Nat) (op : Operation) (s : State) : (failRebuild n op s).views = s.views := by
  simp [failRebuild]
@[simp] theorem failRebuild_composer (n : Nat) (op : Operation) (s : State) : (failRebuild n op s).composer = s.composer := by
  simp [failRebuild]
@[simp] theorem failRebuild_links (n : Nat) (op : Operation) (s : State) : (failRebuild n op s).links = s.links := by
  simp [failRebuild]

/-! ## correctCopy -/

@[simp] theorem correctCopy_pending (b : Bank) (n key : Nat) (op : Operation) (s : State) : (correctCopy b n key op s).pending = s.pending := by
  simp [correctCopy]
@[simp] theorem correctCopy_inReset (b : Bank) (n key : Nat) (op : Operation) (s : State) : (correctCopy b n key op s).inReset = s.inReset := by
  simp [correctCopy]
@[simp] theorem correctCopy_port (b : Bank) (n key : Nat) (op : Operation) (s : State) : (correctCopy b n key op s).port = s.port := by
  simp [correctCopy]
@[simp] theorem correctCopy_cmd (b : Bank) (n key : Nat) (op : Operation) (s : State) : (correctCopy b n key op s).cmd = s.cmd := by
  simp [correctCopy]
@[simp] theorem correctCopy_dir (b : Bank) (n key : Nat) (op : Operation) (s : State) : (correctCopy b n key op s).dir = s.dir := by
  simp [correctCopy]
@[simp] theorem correctCopy_store (b : Bank) (n key : Nat) (op : Operation) (s : State) : (correctCopy b n key op s).store = s.store := by
  simp [correctCopy]
@[simp] theorem correctCopy_arb (b : Bank) (n key : Nat) (op : Operation) (s : State) : (correctCopy b n key op s).arb = s.arb := by
  simp [correctCopy]
@[simp] theorem correctCopy_sweep (b : Bank) (n key : Nat) (op : Operation) (s : State) : (correctCopy b n key op s).sweep = s.sweep := by
  simp [correctCopy]
@[simp] theorem correctCopy_phrases (b : Bank) (n key : Nat) (op : Operation) (s : State) : (correctCopy b n key op s).phrases = s.phrases := by
  simp [correctCopy]
@[simp] theorem correctCopy_clock (b : Bank) (n key : Nat) (op : Operation) (s : State) : (correctCopy b n key op s).clock = s.clock := by
  simp [correctCopy]
@[simp] theorem correctCopy_retire (b : Bank) (n key : Nat) (op : Operation) (s : State) : (correctCopy b n key op s).retire = s.retire := by
  simp [correctCopy]
@[simp] theorem correctCopy_views (b : Bank) (n key : Nat) (op : Operation) (s : State) : (correctCopy b n key op s).views = s.views := by
  simp [correctCopy]
@[simp] theorem correctCopy_composer (b : Bank) (n key : Nat) (op : Operation) (s : State) : (correctCopy b n key op s).composer = s.composer := by
  simp [correctCopy]
@[simp] theorem correctCopy_links (b : Bank) (n key : Nat) (op : Operation) (s : State) : (correctCopy b n key op s).links = s.links := by
  simp [correctCopy]

/-! ## Answers -/

@[simp] theorem ReadAnswer.after_body (r : RecordBody) (s : State) : (ReadAnswer.body r s).after = s := rfl
@[simp] theorem ReadAnswer.after_withdrawn (s : State) : (ReadAnswer.withdrawn s).after = s := rfl
@[simp] theorem ReadAnswer.after_gone (s : State) : (ReadAnswer.gone s).after = s := rfl
@[simp] theorem ReadAnswer.after_failed (s : State) : (ReadAnswer.failed s).after = s := rfl
@[simp] theorem ReadAnswer.after_notServing (s : State) : (ReadAnswer.notServing s).after = s := rfl
@[simp] theorem WriteAnswer.after_stored (s : State) : (WriteAnswer.stored s).after = s := rfl
@[simp] theorem WriteAnswer.after_failed (s : State) : (WriteAnswer.failed s).after = s := rfl
@[simp] theorem WriteAnswer.after_notServing (s : State) : (WriteAnswer.notServing s).after = s := rfl

/-! ## withdraw_after -/

@[simp] theorem withdraw_after_pending (op : Operation) (slot key : Nat) (s : State) : ((withdraw op slot key s).after).pending = s.pending := by
  unfold withdraw; split <;> simp
@[simp] theorem withdraw_after_inReset (op : Operation) (slot key : Nat) (s : State) : ((withdraw op slot key s).after).inReset = s.inReset := by
  unfold withdraw; split <;> simp
@[simp] theorem withdraw_after_port (op : Operation) (slot key : Nat) (s : State) : ((withdraw op slot key s).after).port = s.port := by
  unfold withdraw; split <;> simp
@[simp] theorem withdraw_after_cmd (op : Operation) (slot key : Nat) (s : State) : ((withdraw op slot key s).after).cmd = s.cmd := by
  unfold withdraw; split <;> simp
@[simp] theorem withdraw_after_mem (op : Operation) (slot key : Nat) (s : State) : ((withdraw op slot key s).after).mem = s.mem := by
  unfold withdraw; split <;> simp
@[simp] theorem withdraw_after_store (op : Operation) (slot key : Nat) (s : State) : ((withdraw op slot key s).after).store = s.store := by
  unfold withdraw; split <;> simp
@[simp] theorem withdraw_after_arb (op : Operation) (slot key : Nat) (s : State) : ((withdraw op slot key s).after).arb = s.arb := by
  unfold withdraw; split <;> simp
@[simp] theorem withdraw_after_sweep (op : Operation) (slot key : Nat) (s : State) : ((withdraw op slot key s).after).sweep = s.sweep := by
  unfold withdraw; split <;> simp
@[simp] theorem withdraw_after_clock (op : Operation) (slot key : Nat) (s : State) : ((withdraw op slot key s).after).clock = s.clock := by
  unfold withdraw; split <;> simp
@[simp] theorem withdraw_after_retire (op : Operation) (slot key : Nat) (s : State) : ((withdraw op slot key s).after).retire = s.retire := by
  unfold withdraw; split <;> simp
@[simp] theorem withdraw_after_views (op : Operation) (slot key : Nat) (s : State) : ((withdraw op slot key s).after).views = s.views := by
  unfold withdraw; split <;> simp
@[simp] theorem withdraw_after_composer (op : Operation) (slot key : Nat) (s : State) : ((withdraw op slot key s).after).composer = s.composer := by
  unfold withdraw; split <;> simp
@[simp] theorem withdraw_after_links (op : Operation) (slot key : Nat) (s : State) : ((withdraw op slot key s).after).links = s.links := by
  unfold withdraw; split <;> simp

/-! ## readPrimary_after -/

@[simp] theorem readPrimary_after_pending (op : Operation) (slot key : Nat) (s : State) : ((readPrimary op slot key s).after).pending = s.pending := by
  simp only [readPrimary]; split <;> try split
  all_goals simp
@[simp] theorem readPrimary_after_inReset (op : Operation) (slot key : Nat) (s : State) : ((readPrimary op slot key s).after).inReset = s.inReset := by
  simp only [readPrimary]; split <;> try split
  all_goals simp
@[simp] theorem readPrimary_after_port (op : Operation) (slot key : Nat) (s : State) : ((readPrimary op slot key s).after).port = s.port := by
  simp only [readPrimary]; split <;> try split
  all_goals simp
@[simp] theorem readPrimary_after_cmd (op : Operation) (slot key : Nat) (s : State) : ((readPrimary op slot key s).after).cmd = s.cmd := by
  simp only [readPrimary]; split <;> try split
  all_goals simp
@[simp] theorem readPrimary_after_clock (op : Operation) (slot key : Nat) (s : State) : ((readPrimary op slot key s).after).clock = s.clock := by
  simp only [readPrimary]; split <;> try split
  all_goals simp
@[simp] theorem readPrimary_after_retire (op : Operation) (slot key : Nat) (s : State) : ((readPrimary op slot key s).after).retire = s.retire := by
  simp only [readPrimary]; split <;> try split
  all_goals simp
@[simp] theorem readPrimary_after_views (op : Operation) (slot key : Nat) (s : State) : ((readPrimary op slot key s).after).views = s.views := by
  simp only [readPrimary]; split <;> try split
  all_goals simp
@[simp] theorem readPrimary_after_composer (op : Operation) (slot key : Nat) (s : State) : ((readPrimary op slot key s).after).composer = s.composer := by
  simp only [readPrimary]; split <;> try split
  all_goals simp
@[simp] theorem readPrimary_after_links (op : Operation) (slot key : Nat) (s : State) : ((readPrimary op slot key s).after).links = s.links := by
  simp only [readPrimary]; split <;> try split
  all_goals simp

/-! ## repair_after -/

@[simp] theorem repair_after_pending (op : Operation) (slot key : Nat) (s : State) : ((repair op slot key s).after).pending = s.pending := by
  simp only [repair]; split <;> simp
@[simp] theorem repair_after_inReset (op : Operation) (slot key : Nat) (s : State) : ((repair op slot key s).after).inReset = s.inReset := by
  simp only [repair]; split <;> simp
@[simp] theorem repair_after_port (op : Operation) (slot key : Nat) (s : State) : ((repair op slot key s).after).port = s.port := by
  simp only [repair]; split <;> simp
@[simp] theorem repair_after_cmd (op : Operation) (slot key : Nat) (s : State) : ((repair op slot key s).after).cmd = s.cmd := by
  simp only [repair]; split <;> simp
@[simp] theorem repair_after_clock (op : Operation) (slot key : Nat) (s : State) : ((repair op slot key s).after).clock = s.clock := by
  simp only [repair]; split <;> simp
@[simp] theorem repair_after_retire (op : Operation) (slot key : Nat) (s : State) : ((repair op slot key s).after).retire = s.retire := by
  simp only [repair]; split <;> simp
@[simp] theorem repair_after_views (op : Operation) (slot key : Nat) (s : State) : ((repair op slot key s).after).views = s.views := by
  simp only [repair]; split <;> simp
@[simp] theorem repair_after_composer (op : Operation) (slot key : Nat) (s : State) : ((repair op slot key s).after).composer = s.composer := by
  simp only [repair]; split <;> simp
@[simp] theorem repair_after_links (op : Operation) (slot key : Nat) (s : State) : ((repair op slot key s).after).links = s.links := by
  simp only [repair]; split <;> simp

/-! ## readMirrored_after -/

@[simp] theorem readMirrored_after_pending (op : Operation) (slot key : Nat) (s : State) : ((readMirrored op slot key s).after).pending = s.pending := by
  simp only [readMirrored]; split <;> try split
  all_goals simp
@[simp] theorem readMirrored_after_inReset (op : Operation) (slot key : Nat) (s : State) : ((readMirrored op slot key s).after).inReset = s.inReset := by
  simp only [readMirrored]; split <;> try split
  all_goals simp
@[simp] theorem readMirrored_after_port (op : Operation) (slot key : Nat) (s : State) : ((readMirrored op slot key s).after).port = s.port := by
  simp only [readMirrored]; split <;> try split
  all_goals simp
@[simp] theorem readMirrored_after_cmd (op : Operation) (slot key : Nat) (s : State) : ((readMirrored op slot key s).after).cmd = s.cmd := by
  simp only [readMirrored]; split <;> try split
  all_goals simp
@[simp] theorem readMirrored_after_clock (op : Operation) (slot key : Nat) (s : State) : ((readMirrored op slot key s).after).clock = s.clock := by
  simp only [readMirrored]; split <;> try split
  all_goals simp
@[simp] theorem readMirrored_after_retire (op : Operation) (slot key : Nat) (s : State) : ((readMirrored op slot key s).after).retire = s.retire := by
  simp only [readMirrored]; split <;> try split
  all_goals simp
@[simp] theorem readMirrored_after_views (op : Operation) (slot key : Nat) (s : State) : ((readMirrored op slot key s).after).views = s.views := by
  simp only [readMirrored]; split <;> try split
  all_goals simp
@[simp] theorem readMirrored_after_composer (op : Operation) (slot key : Nat) (s : State) : ((readMirrored op slot key s).after).composer = s.composer := by
  simp only [readMirrored]; split <;> try split
  all_goals simp
@[simp] theorem readMirrored_after_links (op : Operation) (slot key : Nat) (s : State) : ((readMirrored op slot key s).after).links = s.links := by
  simp only [readMirrored]; split <;> try split
  all_goals simp

/-! ## readBody_after -/

@[simp] theorem readBody_after_pending (op : Operation) (slot key : Nat) (s : State) : ((readBody op slot key s).after).pending = s.pending := by
  simp only [readBody]; split <;> simp
@[simp] theorem readBody_after_inReset (op : Operation) (slot key : Nat) (s : State) : ((readBody op slot key s).after).inReset = s.inReset := by
  simp only [readBody]; split <;> simp
@[simp] theorem readBody_after_port (op : Operation) (slot key : Nat) (s : State) : ((readBody op slot key s).after).port = s.port := by
  simp only [readBody]; split <;> simp
@[simp] theorem readBody_after_cmd (op : Operation) (slot key : Nat) (s : State) : ((readBody op slot key s).after).cmd = s.cmd := by
  simp only [readBody]; split <;> simp
@[simp] theorem readBody_after_clock (op : Operation) (slot key : Nat) (s : State) : ((readBody op slot key s).after).clock = s.clock := by
  simp only [readBody]; split <;> simp
@[simp] theorem readBody_after_retire (op : Operation) (slot key : Nat) (s : State) : ((readBody op slot key s).after).retire = s.retire := by
  simp only [readBody]; split <;> simp
@[simp] theorem readBody_after_views (op : Operation) (slot key : Nat) (s : State) : ((readBody op slot key s).after).views = s.views := by
  simp only [readBody]; split <;> simp
@[simp] theorem readBody_after_composer (op : Operation) (slot key : Nat) (s : State) : ((readBody op slot key s).after).composer = s.composer := by
  simp only [readBody]; split <;> simp
@[simp] theorem readBody_after_links (op : Operation) (slot key : Nat) (s : State) : ((readBody op slot key s).after).links = s.links := by
  simp only [readBody]; split <;> simp

/-! ## writePrimary_after -/

@[simp] theorem writePrimary_after_pending (op : Operation) (slot : Nat) (v : Contents) (s : State) : ((writePrimary op slot v s).after).pending = s.pending := by
  simp only [writePrimary]; split <;> simp
@[simp] theorem writePrimary_after_inReset (op : Operation) (slot : Nat) (v : Contents) (s : State) : ((writePrimary op slot v s).after).inReset = s.inReset := by
  simp only [writePrimary]; split <;> simp
@[simp] theorem writePrimary_after_port (op : Operation) (slot : Nat) (v : Contents) (s : State) : ((writePrimary op slot v s).after).port = s.port := by
  simp only [writePrimary]; split <;> simp
@[simp] theorem writePrimary_after_cmd (op : Operation) (slot : Nat) (v : Contents) (s : State) : ((writePrimary op slot v s).after).cmd = s.cmd := by
  simp only [writePrimary]; split <;> simp
@[simp] theorem writePrimary_after_clock (op : Operation) (slot : Nat) (v : Contents) (s : State) : ((writePrimary op slot v s).after).clock = s.clock := by
  simp only [writePrimary]; split <;> simp
@[simp] theorem writePrimary_after_retire (op : Operation) (slot : Nat) (v : Contents) (s : State) : ((writePrimary op slot v s).after).retire = s.retire := by
  simp only [writePrimary]; split <;> simp
@[simp] theorem writePrimary_after_views (op : Operation) (slot : Nat) (v : Contents) (s : State) : ((writePrimary op slot v s).after).views = s.views := by
  simp only [writePrimary]; split <;> simp
@[simp] theorem writePrimary_after_composer (op : Operation) (slot : Nat) (v : Contents) (s : State) : ((writePrimary op slot v s).after).composer = s.composer := by
  simp only [writePrimary]; split <;> simp
@[simp] theorem writePrimary_after_links (op : Operation) (slot : Nat) (v : Contents) (s : State) : ((writePrimary op slot v s).after).links = s.links := by
  simp only [writePrimary]; split <;> simp

/-! ## writeMirrored_after -/

@[simp] theorem writeMirrored_after_pending (op : Operation) (slot : Nat) (v : Contents) (s : State) : ((writeMirrored op slot v s).after).pending = s.pending := by
  simp only [writeMirrored]; split <;> simp
@[simp] theorem writeMirrored_after_inReset (op : Operation) (slot : Nat) (v : Contents) (s : State) : ((writeMirrored op slot v s).after).inReset = s.inReset := by
  simp only [writeMirrored]; split <;> simp
@[simp] theorem writeMirrored_after_port (op : Operation) (slot : Nat) (v : Contents) (s : State) : ((writeMirrored op slot v s).after).port = s.port := by
  simp only [writeMirrored]; split <;> simp
@[simp] theorem writeMirrored_after_cmd (op : Operation) (slot : Nat) (v : Contents) (s : State) : ((writeMirrored op slot v s).after).cmd = s.cmd := by
  simp only [writeMirrored]; split <;> simp
@[simp] theorem writeMirrored_after_clock (op : Operation) (slot : Nat) (v : Contents) (s : State) : ((writeMirrored op slot v s).after).clock = s.clock := by
  simp only [writeMirrored]; split <;> simp
@[simp] theorem writeMirrored_after_retire (op : Operation) (slot : Nat) (v : Contents) (s : State) : ((writeMirrored op slot v s).after).retire = s.retire := by
  simp only [writeMirrored]; split <;> simp
@[simp] theorem writeMirrored_after_views (op : Operation) (slot : Nat) (v : Contents) (s : State) : ((writeMirrored op slot v s).after).views = s.views := by
  simp only [writeMirrored]; split <;> simp
@[simp] theorem writeMirrored_after_composer (op : Operation) (slot : Nat) (v : Contents) (s : State) : ((writeMirrored op slot v s).after).composer = s.composer := by
  simp only [writeMirrored]; split <;> simp
@[simp] theorem writeMirrored_after_links (op : Operation) (slot : Nat) (v : Contents) (s : State) : ((writeMirrored op slot v s).after).links = s.links := by
  simp only [writeMirrored]; split <;> simp

/-! ## writeBelowCursor_after -/

@[simp] theorem writeBelowCursor_after_pending (op : Operation) (slot : Nat) (v : Contents) (s : State) : ((writeBelowCursor op slot v s).after).pending = s.pending := by
  simp only [writeBelowCursor]; split <;> simp
@[simp] theorem writeBelowCursor_after_inReset (op : Operation) (slot : Nat) (v : Contents) (s : State) : ((writeBelowCursor op slot v s).after).inReset = s.inReset := by
  simp only [writeBelowCursor]; split <;> simp
@[simp] theorem writeBelowCursor_after_port (op : Operation) (slot : Nat) (v : Contents) (s : State) : ((writeBelowCursor op slot v s).after).port = s.port := by
  simp only [writeBelowCursor]; split <;> simp
@[simp] theorem writeBelowCursor_after_cmd (op : Operation) (slot : Nat) (v : Contents) (s : State) : ((writeBelowCursor op slot v s).after).cmd = s.cmd := by
  simp only [writeBelowCursor]; split <;> simp
@[simp] theorem writeBelowCursor_after_clock (op : Operation) (slot : Nat) (v : Contents) (s : State) : ((writeBelowCursor op slot v s).after).clock = s.clock := by
  simp only [writeBelowCursor]; split <;> simp
@[simp] theorem writeBelowCursor_after_retire (op : Operation) (slot : Nat) (v : Contents) (s : State) : ((writeBelowCursor op slot v s).after).retire = s.retire := by
  simp only [writeBelowCursor]; split <;> simp
@[simp] theorem writeBelowCursor_after_views (op : Operation) (slot : Nat) (v : Contents) (s : State) : ((writeBelowCursor op slot v s).after).views = s.views := by
  simp only [writeBelowCursor]; split <;> simp
@[simp] theorem writeBelowCursor_after_composer (op : Operation) (slot : Nat) (v : Contents) (s : State) : ((writeBelowCursor op slot v s).after).composer = s.composer := by
  simp only [writeBelowCursor]; split <;> simp
@[simp] theorem writeBelowCursor_after_links (op : Operation) (slot : Nat) (v : Contents) (s : State) : ((writeBelowCursor op slot v s).after).links = s.links := by
  simp only [writeBelowCursor]; split <;> simp

/-! ## writeBody_after -/

@[simp] theorem writeBody_after_pending (op : Operation) (slot : Nat) (r : RecordBody) (s : State) : ((writeBody op slot r s).after).pending = s.pending := by
  simp only [writeBody]; split <;> try split
  all_goals simp
@[simp] theorem writeBody_after_inReset (op : Operation) (slot : Nat) (r : RecordBody) (s : State) : ((writeBody op slot r s).after).inReset = s.inReset := by
  simp only [writeBody]; split <;> try split
  all_goals simp
@[simp] theorem writeBody_after_port (op : Operation) (slot : Nat) (r : RecordBody) (s : State) : ((writeBody op slot r s).after).port = s.port := by
  simp only [writeBody]; split <;> try split
  all_goals simp
@[simp] theorem writeBody_after_cmd (op : Operation) (slot : Nat) (r : RecordBody) (s : State) : ((writeBody op slot r s).after).cmd = s.cmd := by
  simp only [writeBody]; split <;> try split
  all_goals simp
@[simp] theorem writeBody_after_clock (op : Operation) (slot : Nat) (r : RecordBody) (s : State) : ((writeBody op slot r s).after).clock = s.clock := by
  simp only [writeBody]; split <;> try split
  all_goals simp
@[simp] theorem writeBody_after_retire (op : Operation) (slot : Nat) (r : RecordBody) (s : State) : ((writeBody op slot r s).after).retire = s.retire := by
  simp only [writeBody]; split <;> try split
  all_goals simp
@[simp] theorem writeBody_after_views (op : Operation) (slot : Nat) (r : RecordBody) (s : State) : ((writeBody op slot r s).after).views = s.views := by
  simp only [writeBody]; split <;> try split
  all_goals simp
@[simp] theorem writeBody_after_composer (op : Operation) (slot : Nat) (r : RecordBody) (s : State) : ((writeBody op slot r s).after).composer = s.composer := by
  simp only [writeBody]; split <;> try split
  all_goals simp
@[simp] theorem writeBody_after_links (op : Operation) (slot : Nat) (r : RecordBody) (s : State) : ((writeBody op slot r s).after).links = s.links := by
  simp only [writeBody]; split <;> try split
  all_goals simp

/-! ## Claims that answer -/

theorem insertClaim_pending {e : Entry} {s t : State} {rank : Nat} (h : insertClaim e s = .served rank t) :
    t.pending = s.pending := by
  simp only [insertClaim] at h
  split_ifs at h
  injection h with _ h
  subst h
  simp
theorem insertClaim_inReset {e : Entry} {s t : State} {rank : Nat} (h : insertClaim e s = .served rank t) :
    t.inReset = s.inReset := by
  simp only [insertClaim] at h
  split_ifs at h
  injection h with _ h
  subst h
  simp
theorem insertClaim_port {e : Entry} {s t : State} {rank : Nat} (h : insertClaim e s = .served rank t) :
    t.port = s.port := by
  simp only [insertClaim] at h
  split_ifs at h
  injection h with _ h
  subst h
  simp
theorem insertClaim_cmd {e : Entry} {s t : State} {rank : Nat} (h : insertClaim e s = .served rank t) :
    t.cmd = s.cmd := by
  simp only [insertClaim] at h
  split_ifs at h
  injection h with _ h
  subst h
  simp
theorem insertClaim_mem {e : Entry} {s t : State} {rank : Nat} (h : insertClaim e s = .served rank t) :
    t.mem = s.mem := by
  simp only [insertClaim] at h
  split_ifs at h
  injection h with _ h
  subst h
  simp
theorem insertClaim_store {e : Entry} {s t : State} {rank : Nat} (h : insertClaim e s = .served rank t) :
    t.store = s.store := by
  simp only [insertClaim] at h
  split_ifs at h
  injection h with _ h
  subst h
  simp
theorem insertClaim_arb {e : Entry} {s t : State} {rank : Nat} (h : insertClaim e s = .served rank t) :
    t.arb = s.arb := by
  simp only [insertClaim] at h
  split_ifs at h
  injection h with _ h
  subst h
  simp
theorem insertClaim_sweep {e : Entry} {s t : State} {rank : Nat} (h : insertClaim e s = .served rank t) :
    t.sweep = s.sweep := by
  simp only [insertClaim] at h
  split_ifs at h
  injection h with _ h
  subst h
  simp
theorem insertClaim_clock {e : Entry} {s t : State} {rank : Nat} (h : insertClaim e s = .served rank t) :
    t.clock = s.clock := by
  simp only [insertClaim] at h
  split_ifs at h
  injection h with _ h
  subst h
  simp
theorem insertClaim_retire {e : Entry} {s t : State} {rank : Nat} (h : insertClaim e s = .served rank t) :
    t.retire = s.retire := by
  simp only [insertClaim] at h
  split_ifs at h
  injection h with _ h
  subst h
  simp
theorem insertClaim_views {e : Entry} {s t : State} {rank : Nat} (h : insertClaim e s = .served rank t) :
    t.views = s.views := by
  simp only [insertClaim] at h
  split_ifs at h
  injection h with _ h
  subst h
  simp
theorem insertClaim_composer {e : Entry} {s t : State} {rank : Nat} (h : insertClaim e s = .served rank t) :
    t.composer = s.composer := by
  simp only [insertClaim] at h
  split_ifs at h
  injection h with _ h
  subst h
  simp
theorem insertClaim_links {e : Entry} {s t : State} {rank : Nat} (h : insertClaim e s = .served rank t) :
    t.links = s.links := by
  simp only [insertClaim] at h
  split_ifs at h
  injection h with _ h
  subst h
  simp
theorem insertClaim_events {e : Entry} {s t : State} {rank : Nat} (h : insertClaim e s = .served rank t) :
    t.events = s.events := by
  simp only [insertClaim] at h
  split_ifs at h
  injection h with _ h
  subst h
  simp
theorem updateClaim_pending {key slot : Nat} {e : Entry} {s t : State} {rank : Nat}
    (h : updateClaim key slot e s = .served rank t) : t.pending = s.pending := by
  simp only [updateClaim] at h
  split_ifs at h
  split at h
  · cases h
  · injection h with _ h
    subst h
    simp
theorem updateClaim_inReset {key slot : Nat} {e : Entry} {s t : State} {rank : Nat}
    (h : updateClaim key slot e s = .served rank t) : t.inReset = s.inReset := by
  simp only [updateClaim] at h
  split_ifs at h
  split at h
  · cases h
  · injection h with _ h
    subst h
    simp
theorem updateClaim_port {key slot : Nat} {e : Entry} {s t : State} {rank : Nat}
    (h : updateClaim key slot e s = .served rank t) : t.port = s.port := by
  simp only [updateClaim] at h
  split_ifs at h
  split at h
  · cases h
  · injection h with _ h
    subst h
    simp
theorem updateClaim_cmd {key slot : Nat} {e : Entry} {s t : State} {rank : Nat}
    (h : updateClaim key slot e s = .served rank t) : t.cmd = s.cmd := by
  simp only [updateClaim] at h
  split_ifs at h
  split at h
  · cases h
  · injection h with _ h
    subst h
    simp
theorem updateClaim_mem {key slot : Nat} {e : Entry} {s t : State} {rank : Nat}
    (h : updateClaim key slot e s = .served rank t) : t.mem = s.mem := by
  simp only [updateClaim] at h
  split_ifs at h
  split at h
  · cases h
  · injection h with _ h
    subst h
    simp
theorem updateClaim_store {key slot : Nat} {e : Entry} {s t : State} {rank : Nat}
    (h : updateClaim key slot e s = .served rank t) : t.store = s.store := by
  simp only [updateClaim] at h
  split_ifs at h
  split at h
  · cases h
  · injection h with _ h
    subst h
    simp
theorem updateClaim_arb {key slot : Nat} {e : Entry} {s t : State} {rank : Nat}
    (h : updateClaim key slot e s = .served rank t) : t.arb = s.arb := by
  simp only [updateClaim] at h
  split_ifs at h
  split at h
  · cases h
  · injection h with _ h
    subst h
    simp
theorem updateClaim_sweep {key slot : Nat} {e : Entry} {s t : State} {rank : Nat}
    (h : updateClaim key slot e s = .served rank t) : t.sweep = s.sweep := by
  simp only [updateClaim] at h
  split_ifs at h
  split at h
  · cases h
  · injection h with _ h
    subst h
    simp
theorem updateClaim_clock {key slot : Nat} {e : Entry} {s t : State} {rank : Nat}
    (h : updateClaim key slot e s = .served rank t) : t.clock = s.clock := by
  simp only [updateClaim] at h
  split_ifs at h
  split at h
  · cases h
  · injection h with _ h
    subst h
    simp
theorem updateClaim_retire {key slot : Nat} {e : Entry} {s t : State} {rank : Nat}
    (h : updateClaim key slot e s = .served rank t) : t.retire = s.retire := by
  simp only [updateClaim] at h
  split_ifs at h
  split at h
  · cases h
  · injection h with _ h
    subst h
    simp
theorem updateClaim_views {key slot : Nat} {e : Entry} {s t : State} {rank : Nat}
    (h : updateClaim key slot e s = .served rank t) : t.views = s.views := by
  simp only [updateClaim] at h
  split_ifs at h
  split at h
  · cases h
  · injection h with _ h
    subst h
    simp
theorem updateClaim_composer {key slot : Nat} {e : Entry} {s t : State} {rank : Nat}
    (h : updateClaim key slot e s = .served rank t) : t.composer = s.composer := by
  simp only [updateClaim] at h
  split_ifs at h
  split at h
  · cases h
  · injection h with _ h
    subst h
    simp
theorem updateClaim_links {key slot : Nat} {e : Entry} {s t : State} {rank : Nat}
    (h : updateClaim key slot e s = .served rank t) : t.links = s.links := by
  simp only [updateClaim] at h
  split_ifs at h
  split at h
  · cases h
  · injection h with _ h
    subst h
    simp

end Sys2Proof.Machine
end

