-- ==== Sys2Proof/Laws/Strobes.lean ====
section
/-!
SUPPORT. What a strobe does: the strobe that ends a write takes the byte, a command row that is ready runs its
command, and the strobe's own marks change nothing a command reads.
-/

namespace Sys2Proof.Machine

/-- The state right after a write strobe: no nibble pending and the lines not driven. -/
theorem strobed_eq (s : State) : s.strobed none .released = { s with port := portTaken s.port } := rfl

/-- The two halves of a byte make the byte again. -/
theorem nibbles_join (b : Byte) : upperNibble b ++ upperNibble (lowerNibble b ++ 0#4) = b := by
  revert b; decide

/-- The strobe that ends a write takes the byte, in either width (R148, R149). -/
theorem strobe_write {sel : Bool} {b : Byte} {s : State} (h : WriteReady sel b s) :
    strobe sel false (linesOf s.port.width b) s = takeWrite sel b (s.strobed none .released) := by
  obtain ⟨_, hl, hw | ⟨hw, hp⟩⟩ := h
  · simp [strobe, hl, hw, linesOf, strobeEight]
  · simp [strobe, hl, hw, linesOf, strobeFour, hp, PendingHalf.rw, secondHalf, nibbles_join]

/-- Where a write strobe is ready, it ends the write of its byte. -/
theorem endsCommandWrite_of_ready {b : Byte} {s : State} (h : WriteReady false b s) : endsCommandWrite b s = true := by
  obtain ⟨_, hl, hw | ⟨hw, hp⟩⟩ := h
  · simp [endsCommandWrite, hl, hw]
  · simp [endsCommandWrite, hl, hw, hp]

/-- The two edges of a width-8 read, one after the other, are the read (R152, R153). -/
theorem readRise_readFall {s : State} (sel : Bool) (hl : s.port.lowRead = none) (hw : s.port.width = .eight) :
    readRise sel (readFall sel s) = readStrobe sel s := by
  have hp : { s.port with lowRead := none } = s.port := by rw [← hl]
  rw [readFall, hw, hl, readStrobe, strobe, hl, hw]
  simp only [readRise, State.setPort, strobeEight, State.strobed, if_true]
  rw [← hp]

/-- A command row whose strobe ends its write takes its byte (R155); RETIRE's lookup apart from its remove claim is
said by `exec_retireLookup`. -/
theorem exec_commandByte {i : Instr} {b : Byte} {s : State} (hi : commandByteOf i = some b) (hl : i ≠ .retire .lookup)
    (h : WriteReady false b s) : exec i s = .next (takeCommandByte b (s.strobed none .released)) := by
  have hr : s.inReset = false := h.1
  have hs : commandStrobe b s = takeCommandByte b (s.strobed none .released) := strobe_write h
  cases i
  case retire x =>
    cases x
    · simp only [commandByteOf, Option.some.injEq] at hi
      subst hi
      show whenAwake (commandStrobe _) s = _
      rw [whenAwake, hr, if_neg Bool.false_ne_true, hs]
    · exact absurd rfl hl
    · simp [commandByteOf] at hi
  all_goals first
    | (simp only [commandByteOf, reduceCtorEq] at hi; done)
    | (simp only [commandByteOf, Option.some.injEq] at hi; subst hi
       show whenAwake (commandStrobe _) s = _
       rw [whenAwake, hr, if_neg Bool.false_ne_true, hs])

/-- RETIRE's strobe with its remove claim served apart, when it is ready (R35, log 4). -/
theorem exec_retireLookup {s : State} (h : CommandReady 0x03 s) :
    exec (.retire .lookup) s = .next (retireLookup { s with port := portTaken s.port }) := by
  have hc : (endsCommandWrite 0x03 s && !s.busy) = true := by
    rw [endsCommandWrite_of_ready h.1, State.busy, h.2]
    rfl
  have hn : exec (.retire .lookup) s = .next (retireLookupStrobe s) := by
    show whenAwake retireLookupStrobe s = _
    rw [whenAwake, h.1.1, if_neg Bool.false_ne_true]
  rw [hn, retireLookupStrobe, if_pos hc, strobed_eq]

/-- With no command in flight a byte below 0x80 other than the two WIDTH bytes is accepted (R155). -/
theorem takeCommandByte_accept {b : Byte} {s : State} (hb : s.cmd = none) (h80 : b.toNat < 0x80) (h8 : b.toNat ≠ 0x40)
    (h4 : b.toNat ≠ 0x41) : takeCommandByte b s = acceptCommand b.toNat s := by
  have : ¬ 128 ≤ b.toNat := by omega
  simp [takeCommandByte, State.busy, hb, h8, h4, this]

/-- With a command in flight a command write is refused with OVERRUN (R155). -/
theorem takeCommandByte_busy {b : Byte} {s : State} (hb : s.cmd ≠ none) : takeCommandByte b s = raiseOverrun s := by
  cases hc : s.cmd with
  | none => exact absurd hc hb
  | some c => simp [takeCommandByte, State.busy, hc]

/-- With a command in flight every command row is refused with OVERRUN, however its claims are served (R155). -/
theorem exec_busy {i : Instr} {b : Byte} {s : State} (hi : commandByteOf i = some b) (h : WriteReady false b s)
    (hb : s.cmd ≠ none) : exec i s = .next (raiseOverrun (s.strobed none .released)) := by
  by_cases hl : i = .retire .lookup
  · subst hl
    simp only [commandByteOf, Option.some.injEq] at hi
    subst hi
    cases hc : s.cmd with
    | none => exact absurd hc hb
    | some c =>
      show whenAwake retireLookupStrobe s = _
      rw [whenAwake, h.1, if_neg Bool.false_ne_true, retireLookupStrobe, State.busy, hc]
      simp only [Option.isSome_some, Bool.not_true, Bool.and_false, Bool.false_eq_true, if_false]
      exact congrArg _ ((strobe_write h).trans (takeCommandByte_busy (by simpa using hb)))
  · rw [exec_commandByte hi hl h, takeCommandByte_busy (by simpa using hb)]

/-- A command row that is ready runs its command on the state after its strobe. -/
theorem exec_command {i : Instr} {b : Byte} {s : State} (hi : commandByteOf i = some b) (hl : i ≠ .retire .lookup)
    (h : CommandReady b s) (h80 : b.toNat < 0x80) (h8 : b.toNat ≠ 0x40) (h4 : b.toNat ≠ 0x41) :
    exec i s = .next (acceptCommand b.toNat { s with port := portTaken s.port }) := by
  rw [exec_commandByte hi hl h.1, takeCommandByte_accept (by simpa using h.2) h80 h8 h4, strobed_eq]

/-! ## A command reads the same before and after its strobe -/

section

variable (s : State)

theorem place_portTaken (i : Nat) : State.place { s with port := portTaken s.port } i = s.place i := rfl
theorem word_portTaken (i : Nat) : State.word { s with port := portTaken s.port } i = s.word i := rfl
theorem stagedBody_portTaken : State.stagedBody { s with port := portTaken s.port } = s.stagedBody := rfl
theorem lookupKey_portTaken (k : Nat) : lookupKey k { s with port := portTaken s.port } = lookupKey k s := rfl
theorem view_portTaken (v : Fin 4) : State.view { s with port := portTaken s.port } v = s.view v := rfl
theorem link_portTaken (v : Fin 4) : State.link { s with port := portTaken s.port } v = s.link v := rfl
theorem phrase_portTaken (n : Nat) : State.phrase { s with port := portTaken s.port } n = s.phrase n := rfl

end

/-! ## Completion at the strobe -/

/-- A command that completes at its strobe leaves the port as `portAfter` says, and no command in flight. -/
theorem complete_portTaken (s : State) (rc : ResultCode) (out : Option (List Byte)) (q : Bool) (hc : s.cmd = none) :
    complete rc out q { s with port := portTaken s.port } = { s with port := portAfter s.port rc out q } := by
  cases s
  simp only at hc
  subst hc
  rfl

/-- A command that completes OK at its strobe after a change `f` that neither reads nor touches the port. -/
theorem done_portTaken (s : State) (out : Option (List Byte)) (q : Bool) (hc : s.cmd = none) (f : State → State)
    (hf : ∀ v, f (s.setPort v) = (f s).setPort v) (hcmd : (f s).cmd = s.cmd) :
    done out q (f { s with port := portTaken s.port }) = (f s).onlyPort (portAfter s.port .ok out q) := by
  rw [show ({ s with port := portTaken s.port } : State) = s.setPort (portTaken s.port) from rfl, hf]
  unfold done complete
  apply State.ext <;> simp [State.onlyPort, portAfter, portTaken, hcmd, hc]

/-- A command that is refused at its strobe changes the result code alone (R22). -/
theorem refuse_portTaken (s : State) (rc : ResultCode) (hc : s.cmd = none) :
    refuse rc { s with port := portTaken s.port } = s.onlyPort { portTaken s.port with lastResult := rc } :=
  complete_portTaken s rc none false hc

end Sys2Proof.Machine
end

