-- ==== Sys2Proof/Laws/Arbiter.lean ====
section
/-!
SUPPORT. What a request, a grant's end and a command that asks for a grant do, each said once.
-/

namespace Sys2Proof.Machine

/-- A request (R118): granted at once when the port is free and no request waits, else it waits. -/
theorem requestPort_arb (r : Requester) (s : State) :
    (requestPort r s).arb = arbAfterRequest s.arb
      { holder := r, slot := (grantTarget r s).1, key := (grantTarget r s).2, progress := .begun } := by
  unfold requestPort arbAfterRequest
  by_cases h : s.arb.held = none ∧ s.arb.waiting.first = none
  · have h' : (s.arb.held.isNone && s.arb.waiting.first.isNone) = true := by simp [h]
    rw [if_pos h', if_pos h]
    simp only [grantTo]
    split <;> simp
  · have h' : ¬ (s.arb.held.isNone && s.arb.waiting.first.isNone) = true := by simpa using h
    rw [if_neg h', if_neg h]
    rfl

/-- A request of any requester but the sweep changes the arbiter alone. -/
theorem requestPort_eq {r : Requester} (hr : r ≠ .sweep) (s : State) :
    requestPort r s = s.setArb (arbAfterRequest s.arb
      { holder := r, slot := (grantTarget r s).1, key := (grantTarget r s).2, progress := .begun }) := by
  unfold requestPort arbAfterRequest
  by_cases h : s.arb.held = none ∧ s.arb.waiting.first = none
  · have h' : (s.arb.held.isNone && s.arb.waiting.first.isNone) = true := by simp [h]
    rw [if_pos h', if_pos h]
    simp [grantTo, hr]
  · have h' : ¬ (s.arb.held.isNone && s.arb.waiting.first.isNone) = true := by simpa using h
    rw [if_neg h', if_neg h]
    rfl

/-- A request keeps the sweep's cursor and timer. -/
theorem requestPort_sweep (r : Requester) (s : State) : SameSweep s (requestPort r s) := by
  unfold requestPort grantTo SameSweep
  split
  · simp only
    split <;> simp
  · simp

/-- A command that asks for a grant at its strobe (R42, R118). -/
theorem holdForGrant_portTaken (s : State) (c : InFlight) (slot : Option Nat) (key : Nat)
    (h : commandTarget c = (slot, key)) :
    holdForGrant c { s with port := portTaken s.port } = s.commandAsks c slot key := by
  unfold holdForGrant
  rw [requestPort_eq (by decide)]
  simp only [grantTarget, State.setCmd_cmd, h]
  rfl

/-- The end of a grant for which no disturbance waits leaves Record Memory as it is. -/
theorem endGrant_mem {s : State} (h : s.arb.deferred = []) : (endGrant s).mem = s.mem := by
  simp only [endGrant, h, applyDeferred, List.foldl_nil]
  split <;> simp

/-- The end of a grant keeps the sweep's cursor and timer. -/
theorem endGrant_sweep (s : State) : SameSweep s (endGrant s) := by
  simp only [endGrant, SameSweep]
  split
  · simp
  · simp only [grantTo]
    split <;> simp

/-- The end of a grant with no request waiting frees the port (R118). -/
theorem endGrant_idle {s : State} (h : s.arb.waiting.first = none) : (endGrant s).arb.held = none := by
  simp [endGrant, h]

end Sys2Proof.Machine
end

