-- ==== Sys2Proof/Laws/Banks.lean ====
section
/-!
SUPPORT. Record Memory: a write reads back at its slot and nowhere else, and keeps the canonical form.
-/

namespace Sys2Proof.Machine

/-! ## Lists of (slot, copy) -/

theorem bankGet_bankCons_other {n m : Nat} (h : m ≠ n) (c : Copy) (l : List (Nat × Copy)) :
    bankGet (bankCons n c l) m = bankGet l m := by
  unfold bankCons
  split
  · rfl
  · simp [bankGet, h]

theorem bankGet_bankCons_same {n : Nat} {c : Copy} (l : List (Nat × Copy)) (h : c ≠ resetCopy) :
    bankGet (bankCons n c l) n = c := by
  simp [bankCons, h, bankGet]

/-- A write changes no other slot. -/
theorem bankGet_bankSet_other {n m : Nat} (h : m ≠ n) (c : Copy) (l : List (Nat × Copy)) :
    bankGet (bankSet l n c) m = bankGet l m := by
  induction l with
  | nil => simp [bankSet, bankGet_bankCons_other h]
  | cons e l ih =>
    obtain ⟨k, d⟩ := e
    simp only [bankSet]
    split
    · rw [bankGet_bankCons_other h]
    · split
      · rename_i h2
        subst h2
        rw [bankGet_bankCons_other h]
        simp [bankGet, h]
      · simp only [bankGet]
        split
        · rfl
        · exact ih

/-- A written copy other than the one an unlisted slot holds reads back, whatever the list. -/
theorem bankGet_bankSet_ne {n : Nat} {c : Copy} (h : c ≠ resetCopy) (l : List (Nat × Copy)) :
    bankGet (bankSet l n c) n = c := by
  induction l with
  | nil => exact bankGet_bankCons_same _ h
  | cons e l ih =>
    obtain ⟨k, d⟩ := e
    simp only [bankSet]
    split
    · exact bankGet_bankCons_same _ h
    · split
      · exact bankGet_bankCons_same _ h
      · rename_i h2
        simp only [bankGet, if_neg h2]
        exact ih

/-- A slot below every listed one is unlisted. -/
theorem bankGet_of_all_gt {n : Nat} {l : List (Nat × Copy)} (h : ∀ e ∈ l, n < e.1) : bankGet l n = resetCopy := by
  induction l with
  | nil => rfl
  | cons e l ih =>
    obtain ⟨k, d⟩ := e
    have hk : n < k := h (k, d) (by simp)
    simp only [bankGet, if_neg (Nat.ne_of_lt hk)]
    exact ih fun e he => h e (by simp [he])

theorem bankWf_cons {k : Nat} {d : Copy} {l : List (Nat × Copy)} :
    bankWf ((k, d) :: l) = true ↔ d ≠ resetCopy ∧ (∀ e ∈ l, k < e.1) ∧ bankWf l = true := by
  simp [bankWf, and_assoc]

/-- A write to a bank in canonical form reads back. -/
theorem bankGet_bankSet_same {n : Nat} (c : Copy) {l : List (Nat × Copy)} (h : bankWf l = true) :
    bankGet (bankSet l n c) n = c := by
  by_cases hc : c = resetCopy
  · subst hc
    induction l with
    | nil => simp [bankSet, bankCons, bankGet]
    | cons e l ih =>
      obtain ⟨k, d⟩ := e
      rw [bankWf_cons] at h
      simp only [bankSet]
      split
      · rename_i hk
        simp only [bankCons, if_true, bankGet, if_neg (Nat.ne_of_lt hk)]
        exact bankGet_of_all_gt fun e he => lt_trans hk (h.2.1 e he)
      · split
        · rename_i hk
          simp only [bankCons, if_true]
          exact bankGet_of_all_gt (hk ▸ h.2.1)
        · rename_i hk
          simp only [bankGet, if_neg hk]
          exact ih h.2.2
  · exact bankGet_bankSet_ne hc l

theorem mem_bankSet {e : Nat × Copy} {n : Nat} {c : Copy} {l : List (Nat × Copy)} (h : e ∈ bankSet l n c) :
    e.1 = n ∨ e ∈ l := by
  have hcons : ∀ l' : List (Nat × Copy), e ∈ bankCons n c l' → e.1 = n ∨ e ∈ l' := by
    intro l' h'
    unfold bankCons at h'
    split at h'
    · exact Or.inr h'
    · rcases List.mem_cons.mp h' with rfl | h'
      · exact Or.inl rfl
      · exact Or.inr h'
  induction l with
  | nil => exact hcons _ h
  | cons f l ih =>
    obtain ⟨k, d⟩ := f
    simp only [bankSet] at h
    split at h
    · exact hcons _ h
    · split at h
      · exact (hcons _ h).imp id fun h => List.mem_cons_of_mem _ h
      · rcases List.mem_cons.mp h with rfl | h
        · exact Or.inr (by simp)
        · exact (ih h).imp id fun h => List.mem_cons_of_mem _ h

theorem bankWf_bankCons {n : Nat} {c : Copy} {l : List (Nat × Copy)} (hl : bankWf l = true) (hn : ∀ e ∈ l, n < e.1) :
    bankWf (bankCons n c l) = true := by
  unfold bankCons
  split
  · exact hl
  · rename_i h
    exact bankWf_cons.mpr ⟨h, hn, hl⟩

/-- A write keeps the canonical form of a bank. -/
theorem bankWf_bankSet {n : Nat} {c : Copy} {l : List (Nat × Copy)} (h : bankWf l = true) :
    bankWf (bankSet l n c) = true := by
  induction l with
  | nil => exact bankWf_bankCons h (by simp)
  | cons e l ih =>
    obtain ⟨k, d⟩ := e
    have h' := bankWf_cons.mp h
    simp only [bankSet]
    split
    · rename_i hk
      refine bankWf_bankCons h fun e he => ?_
      rcases List.mem_cons.mp he with rfl | he
      · exact hk
      · exact lt_trans hk (h'.2.1 e he)
    · split
      · rename_i hk
        exact bankWf_bankCons h'.2.2 (hk ▸ h'.2.1)
      · rename_i h1 h2
        refine bankWf_cons.mpr ⟨h'.1, fun e he => ?_, ih h'.2.2⟩
        rcases mem_bankSet he with he | he
        · omega
        · exact h'.2.1 e he

/-! ## Record Memory -/

/-- Every write to a copy keeps Record Memory in its canonical form. -/
theorem RecordMemory.wf_setCopy {m : RecordMemory} (h : m.wf = true) (b : Bank) (n : Nat) (c : Copy) :
    (m.setCopy b n c).wf = true := by
  simp only [RecordMemory.wf, Bool.and_eq_true] at h
  cases b <;> simp [RecordMemory.setCopy, RecordMemory.wf, h, bankWf_bankSet]

/-- A write changes no copy but its own. -/
theorem State.copy_setCopy_other (s : State) {b b' : Bank} {n n' : Nat} (c : Copy) (h : ¬ (b' = b ∧ n' = n)) :
    (s.setCopy b n c).copy b' n' = s.copy b' n' := by
  simp only [State.copy, State.setCopy, State.setMem, RecordMemory.copy, RecordMemory.setCopy, RecordMemory.bank]
  cases b <;> cases b' <;> simp_all <;> exact bankGet_bankSet_other h c _

/-- A written copy other than the one an unlisted slot holds reads back. -/
theorem State.copy_setCopy_ne (s : State) (b : Bank) (n : Nat) {c : Copy} (h : c ≠ resetCopy) :
    (s.setCopy b n c).copy b n = c := by
  cases b <;> exact bankGet_bankSet_ne h _

/-- With Record Memory in canonical form every written copy reads back. -/
theorem State.copy_setCopy_same {s : State} (hs : s.mem.wf = true) (b : Bank) (n : Nat) (c : Copy) :
    (s.setCopy b n c).copy b n = c := by
  simp only [RecordMemory.wf, Bool.and_eq_true] at hs
  cases b
  · exact bankGet_bankSet_same c hs.1
  · exact bankGet_bankSet_same c hs.2

/-- What a write to a sound location leaves (R115). -/
theorem written_sound {v : Contents} {c : Copy} (h : c.stuck = false) :
    written v c = { contents := v, check := .good, stuck := false } := by
  cases c
  simp only at h
  subst h
  simp [written]

/-- What a write to a stuck location leaves (R115). -/
theorem written_stuck {v : Contents} {c : Copy} (h : c.stuck = true) : written v c = { c with check := .uncorrectable } := by
  simp [written, h]

/-- Another copy than the one written. -/
theorem copy_writeCopy_other (s : State) {b b' : Bank} {n n' : Nat} (v : Contents) (h : ¬ (b' = b ∧ n' = n)) :
    (writeCopy b n v s).copy b' n' = s.copy b' n' := State.copy_setCopy_other s _ h

/-- The copy written, where the write leaves something other than what an unlisted slot holds. -/
theorem copy_writeCopy_ne (s : State) (b : Bank) (n : Nat) {v : Contents} (h : written v (s.copy b n) ≠ resetCopy) :
    (writeCopy b n v s).copy b n = written v (s.copy b n) := State.copy_setCopy_ne s b n h

/-- A body or free written to any copy leaves it other than an unlisted slot's copy. -/
theorem written_ne_reset {v : Contents} {c : Copy} (h : v ≠ .unknown) : written v c ≠ resetCopy := by
  unfold written resetCopy
  split
  · intro hc
    injection hc with _ h2 _
    cases h2
  · intro hc
    injection hc with h1 _ _
    exact h h1

end Sys2Proof.Machine
end

