-- ==== Sys2Proof/Laws/Bodies.lean ====
section
/-!
SUPPORT. Reads and writes of record bodies where no copy fails: a read of a GOOD primary copy changes nothing, and a
write that reaches no stuck copy changes Record Memory alone.
-/

namespace Sys2Proof.Machine

/-- Two states with the same Record Memory hold the same copies. -/
theorem State.copy_congr {s t : State} (h : t.mem = s.mem) (b : Bank) (n : Nat) : t.copy b n = s.copy b n := by
  simp [State.copy, h]

/-- A write to a sound location reads back. -/
theorem copy_writeCopy_sound (s : State) (b : Bank) (n : Nat) {v : Contents} (hv : v ≠ .unknown)
    (h : (s.copy b n).stuck = false) :
    (writeCopy b n v s).copy b n = { contents := v, check := .good, stuck := false } := by
  rw [copy_writeCopy_ne s b n (written_ne_reset hv), written_sound h]

/-- A write to a stuck location leaves its contents, UNCORRECTABLE (R115). -/
theorem copy_writeCopy_stuck (s : State) (b : Bank) (n : Nat) {v : Contents} (h : (s.copy b n).stuck = true) :
    (writeCopy b n v s).copy b n = { s.copy b n with check := .uncorrectable } := by
  have hw : written v (s.copy b n) ≠ resetCopy := by
    rw [written_stuck h]
    intro hc
    injection hc with _ h2 _
    cases h2
  rw [copy_writeCopy_ne s b n hw, written_stuck h]

theorem otherBank_ne (b : Bank) : otherBank b ≠ b := by cases b <;> decide

/-- A write changes Record Memory alone. -/
theorem writeCopy_eq (b : Bank) (n : Nat) (v : Contents) (s : State) :
    writeCopy b n v s = s.setMem (writeCopy b n v s).mem := rfl

/-- A body read of a GOOD primary copy answers its body and changes nothing (R121, R122, R124). -/
theorem readBody_good {s : State} (op : Operation) {slot : Nat} (key : Nat) {r : RecordBody} (hs : s.serving = true)
    (h : PrimaryHolds s slot r) : readBody op slot key s = .body r s := by
  obtain ⟨hc, hb⟩ := h
  unfold State.serving at hs
  unfold readBody
  cases hst : s.store.state <;> simp_all [serves, readPrimary, readMirrored, bodyOf]

/-- A body write that reaches no stuck copy is stored: the banks that the store state calls for hold it, every other
copy and every other block stays (R125, R140). -/
theorem writeBody_stored {s : State} (op : Operation) {slot : Nat} (r : RecordBody) (hs : s.serving = true)
    (h : WriteHolds s slot) :
    ∃ m, writeBody op slot r s = .stored (s.setMem m) ∧ WrittenTo s (s.setMem m) slot r ∧
      OtherCopiesKept s (s.setMem m) (writtenBanks s slot) slot := by
  have hv : Contents.body r ≠ .unknown := by simp
  have one : ∀ b, (s.copy b slot).stuck = false →
      (∀ b' ∈ [b], (s.setMem (writeCopy b slot (.body r) s).mem).copy b' slot = goodCopy r) ∧
        OtherCopiesKept s (s.setMem (writeCopy b slot (.body r) s).mem) [b] slot := by
    intro b hb
    rw [← writeCopy_eq]
    refine ⟨fun b' hb' => ?_, fun b' n hn => copy_writeCopy_other s _ (by simpa using hn)⟩
    rw [List.mem_singleton.mp hb']
    exact copy_writeCopy_sound s b slot hv hb
  have two : ∀ b, (s.copy .A slot).stuck = false → (s.copy .B slot).stuck = false →
      let t := writeCopy (otherBank b) slot (.body r) (writeCopy b slot (.body r) s)
      (∀ b' ∈ [Bank.A, .B], (s.setMem t.mem).copy b' slot = goodCopy r) ∧
        OtherCopiesKept s (s.setMem t.mem) [.A, .B] slot := by
    intro b hA hB t
    have hb : (s.copy b slot).stuck = false := by cases b <;> assumption
    have ho : (s.copy (otherBank b) slot).stuck = false := by cases b <;> assumption
    have hne := otherBank_ne b
    have ht : ∀ b' n, (s.setMem t.mem).copy b' n = t.copy b' n := fun _ _ => rfl
    have same : t.copy b slot = goodCopy r := by
      rw [copy_writeCopy_other _ _ (by simp [hne.symm]), copy_writeCopy_sound s b slot hv hb]
      rfl
    have other : t.copy (otherBank b) slot = goodCopy r := by
      rw [copy_writeCopy_sound _ _ slot hv (by rw [copy_writeCopy_other _ _ (by simp [hne])]; exact ho)]
      rfl
    refine ⟨fun b' _ => ?_, fun b' n hn => ?_⟩
    · rw [ht]
      by_cases hbb : b' = b
      · rw [hbb]
        exact same
      · have : b' = otherBank b := by cases b <;> cases b' <;> first | rfl | exact absurd rfl hbb
        rw [this]
        exact other
    · rw [ht]
      have hn' : n ≠ slot := by
        intro he
        apply hn
        cases b' <;> simp [he]
      rw [copy_writeCopy_other _ _ (by simp [hn']), copy_writeCopy_other _ _ (by simp [hn'])]
  unfold State.serving at hs
  unfold WriteHolds writtenBanks at h
  unfold WrittenTo writtenBanks writeBody
  cases hst : s.store.state <;> simp only [hst] at h hs ⊢ <;> try exact absurd hs (by decide)
  · have hb := h s.store.primary (by simp)
    refine ⟨_, ?_, one _ hb⟩
    simp only [writePrimary, hb, Bool.false_eq_true, if_false]
    rfl
  · have hA := h .A (by simp)
    have hB := h .B (by simp)
    have hb : (s.copy s.store.primary slot).stuck = false := by cases s.store.primary <;> assumption
    have ho : (s.copy (otherBank s.store.primary) slot).stuck = false := by cases s.store.primary <;> assumption
    refine ⟨_, ?_, two s.store.primary hA hB⟩
    simp only [writeMirrored, hb, ho]
    rfl
  · by_cases hc : slot < s.store.rebuildCursor
    · simp only [hc, if_true] at h ⊢
      have hA := h .A (by simp)
      have hB := h .B (by simp)
      have hb : (s.copy s.store.primary slot).stuck = false := by cases s.store.primary <;> assumption
      have ho : (s.copy (otherBank s.store.primary) slot).stuck = false := by cases s.store.primary <;> assumption
      refine ⟨_, ?_, two s.store.primary hA hB⟩
      simp only [writeBelowCursor, hb, ho]
      rfl
    · simp only [hc, if_false] at h ⊢
      have hb := h s.store.primary (by simp)
      refine ⟨_, ?_, one _ hb⟩
      simp only [writePrimary, hb, Bool.false_eq_true, if_false]
      rfl
  · have hb := h s.store.primary (by simp)
    refine ⟨_, ?_, one _ hb⟩
    simp only [writePrimary, hb, Bool.false_eq_true, if_false]
    rfl

end Sys2Proof.Machine
end

