-- ==== Sys2Proof/Laws/Elements.lean ====
section
/-!
SUPPORT. Views, links and phrases: an element that is put reads back, and the others stay.
-/

namespace Sys2Proof.Machine

/-! ## Views -/

@[simp] theorem State.view_setView_same (s : State) (v : Fin 4) (w : View) : (s.setView v w).view v = w := by
  simp [State.setView, State.view]
theorem State.view_setView_other (s : State) {u v : Fin 4} (w : View) (h : u ≠ v) : (s.setView v w).view u = s.view u :=
  Vector.getElem_set_ne v.isLt u.isLt fun hh => h (Fin.ext hh.symm)
@[simp] theorem State.link_setView (s : State) (v u : Fin 4) (w : View) : (s.setView v w).link u = s.link u := rfl
/-- Two states with the same views have the same view. -/
theorem State.view_congr {s t : State} (h : t.views = s.views) (v : Fin 4) : t.view v = s.view v := by
  simp [State.view, h]

/-! ## Links -/

@[simp] theorem State.link_setLink_same (s : State) (v : Fin 4) (l : Link) : (s.setLink v l).link v = l := by
  simp [State.setLink, State.link]
theorem State.link_setLink_other (s : State) {u v : Fin 4} (l : Link) (h : u ≠ v) : (s.setLink v l).link u = s.link u :=
  Vector.getElem_set_ne v.isLt u.isLt fun hh => h (Fin.ext hh.symm)
@[simp] theorem State.view_setLink (s : State) (v u : Fin 4) (l : Link) : (s.setLink v l).view u = s.view u := rfl
/-- Two states with the same links have the same link. -/
theorem State.link_congr {s t : State} (h : t.links = s.links) (v : Fin 4) : t.link v = s.link v := by
  simp [State.link, h]

/-! ## Phrases -/

theorem State.phrase_setPhrase_same (s : State) {n : Nat} (p : Phrase) (h : 1 ≤ n ∧ n ≤ 63) :
    (s.setPhrase n p).phrase n = p := by
  simp [State.setPhrase, State.phrase, h]
theorem State.phrase_setPhrase_other (s : State) {n m : Nat} (p : Phrase) (hm : m ≠ n) :
    (s.setPhrase n p).phrase m = s.phrase m := by
  by_cases hn : 1 ≤ n ∧ n ≤ 63
  · rw [show s.setPhrase n p = s.setPhrases (s.phrases.set (n - 1) p (by omega)) from dif_pos hn]
    unfold State.phrase
    by_cases h : 1 ≤ m ∧ m ≤ 63
    · rw [dif_pos h, dif_pos h]
      exact Vector.getElem_set_ne (by omega) (by omega) (by omega)
    · rw [dif_neg h, dif_neg h]
  · rw [show s.setPhrase n p = s from dif_neg hn]
/-- Two states with the same phrases have the same phrase. -/
theorem State.phrase_congr {s t : State} (h : t.phrases = s.phrases) (n : Nat) : t.phrase n = s.phrase n := by
  simp [State.phrase, h]

end Sys2Proof.Machine
end

