-- ==== Sys2Proof/Laws/Composer.lean ====
section
/-!
SUPPORT. What abandoning a composition does (R92): no composition is in flight for the view afterwards, those of the
other views stay, and nothing but the composer and the arbiter's waiting set is touched.
-/

namespace Sys2Proof.Machine

/-- No composition is in flight for a view whose composition has been abandoned (R92). -/
theorem abandonComposition_ends (v : Fin 4) (s : State) : ¬ ComposingFor v (abandonComposition v s) := by
  unfold abandonComposition ComposingFor
  split
  · rename_i h
    simp [h]
  · rename_i h
    simp [h]
  · rename_i w h
    split
    · simp
    · simpa [h]
  · rename_i w h
    split
    · simp
    · simpa [h]
  · rename_i w e h
    split
    · unfold abandonCandidate
      split <;> simp
    · simpa [h]

/-- What abandoning a composition does to the composer and the arbiter, in every case (R92). -/
theorem abandonComposition_abandoned (v : Fin 4) (s : State) : AbandonedFor v s (abandonComposition v s) := by
  unfold AbandonedFor abandonComposition ComposingFor
  split <;> rename_i h <;> simp only [h]
  · simp
  · simp
  · split <;> simp_all
  · split <;> simp_all
  · split
    · unfold abandonCandidate dropRequest
      split <;> rename_i hg <;> simp_all [State.setWaiting, Waiting.put, State.setComposing, State.setComposer]
    · simp_all

/-- Abandoning a view's composition leaves the other views' as they are (R92). -/
theorem abandonComposition_other {u v : Fin 4} (h : u ≠ v) (s : State) :
    ComposingFor u (abandonComposition v s) ↔ ComposingFor u s := by
  unfold abandonComposition ComposingFor
  split
  · rfl
  · rfl
  · rename_i w hw
    split
    · rename_i hwv
      subst hwv
      simp [hw, h.symm]
    · rfl
  · rename_i w hw
    split
    · rename_i hwv
      subst hwv
      simp [hw, h.symm]
    · rfl
  · rename_i w e hw
    split
    · rename_i hwv
      subst hwv
      unfold abandonCandidate
      split <;> simp [hw, h.symm]
    · rfl

/-- Abandoning a composition starts none. -/
theorem abandonComposition_still {u : Fin 4} (v : Fin 4) {s : State} (h : ¬ ComposingFor u s) :
    ¬ ComposingFor u (abandonComposition v s) := by
  by_cases huv : u = v
  · rw [huv]
    exact abandonComposition_ends v s
  · rwa [abandonComposition_other huv]

@[simp] theorem abandonComposition_pending (v : Fin 4) (s : State) : (abandonComposition v s).pending = s.pending := by
  unfold abandonComposition abandonCandidate
  (repeat' split) <;> simp
@[simp] theorem abandonComposition_inReset (v : Fin 4) (s : State) : (abandonComposition v s).inReset = s.inReset := by
  unfold abandonComposition abandonCandidate
  (repeat' split) <;> simp
@[simp] theorem abandonComposition_port (v : Fin 4) (s : State) : (abandonComposition v s).port = s.port := by
  unfold abandonComposition abandonCandidate
  (repeat' split) <;> simp
@[simp] theorem abandonComposition_cmd (v : Fin 4) (s : State) : (abandonComposition v s).cmd = s.cmd := by
  unfold abandonComposition abandonCandidate
  (repeat' split) <;> simp
@[simp] theorem abandonComposition_dir (v : Fin 4) (s : State) : (abandonComposition v s).dir = s.dir := by
  unfold abandonComposition abandonCandidate
  (repeat' split) <;> simp
@[simp] theorem abandonComposition_mem (v : Fin 4) (s : State) : (abandonComposition v s).mem = s.mem := by
  unfold abandonComposition abandonCandidate
  (repeat' split) <;> simp
@[simp] theorem abandonComposition_store (v : Fin 4) (s : State) : (abandonComposition v s).store = s.store := by
  unfold abandonComposition abandonCandidate
  (repeat' split) <;> simp
@[simp] theorem abandonComposition_sweep (v : Fin 4) (s : State) : (abandonComposition v s).sweep = s.sweep := by
  unfold abandonComposition abandonCandidate
  (repeat' split) <;> simp
@[simp] theorem abandonComposition_phrases (v : Fin 4) (s : State) : (abandonComposition v s).phrases = s.phrases := by
  unfold abandonComposition abandonCandidate
  (repeat' split) <;> simp
@[simp] theorem abandonComposition_clock (v : Fin 4) (s : State) : (abandonComposition v s).clock = s.clock := by
  unfold abandonComposition abandonCandidate
  (repeat' split) <;> simp
@[simp] theorem abandonComposition_retire (v : Fin 4) (s : State) : (abandonComposition v s).retire = s.retire := by
  unfold abandonComposition abandonCandidate
  (repeat' split) <;> simp
@[simp] theorem abandonComposition_views (v : Fin 4) (s : State) : (abandonComposition v s).views = s.views := by
  unfold abandonComposition abandonCandidate
  (repeat' split) <;> simp
@[simp] theorem abandonComposition_links (v : Fin 4) (s : State) : (abandonComposition v s).links = s.links := by
  unfold abandonComposition abandonCandidate
  (repeat' split) <;> simp
@[simp] theorem abandonComposition_events (v : Fin 4) (s : State) : (abandonComposition v s).events = s.events := by
  unfold abandonComposition abandonCandidate
  (repeat' split) <;> simp
@[simp] theorem abandonComposition_held (v : Fin 4) (s : State) : (abandonComposition v s).arb.held = s.arb.held := by
  unfold abandonComposition abandonCandidate dropRequest
  (repeat' split) <;> simp
@[simp] theorem abandonComposition_lastServed (v : Fin 4) (s : State) :
    (abandonComposition v s).composer.lastServed = s.composer.lastServed := by
  unfold abandonComposition abandonCandidate
  (repeat' split) <;> simp

/-- The full reset of the model is the full reset of the statements. -/
theorem fullReset_of (s : State) : FullResetOf s (fullReset s) := by
  refine ⟨rfl, rfl, rfl, rfl, rfl, rfl, rfl, rfl, rfl, rfl, rfl, rfl, rfl, rfl, fun n => ?_⟩
  simp [fullReset, State.link]

end Sys2Proof.Machine
end

