-- ==== Sys2Proof/Laws/Units.lean ====
section
/-!
SUPPORT. What the operations of the View Engine, the Board Links, the clock, the Retirement Unit, the store and the
parameters leave alone: one lemma for each operation and each field it does not touch.
-/

namespace Sys2Proof.Machine

/-! ## startPass -/

@[simp] theorem startPass_pending (v : Fin 4) (s : State) :
    (startPass v s).pending = s.pending := by
  simp [startPass, State.setView]
@[simp] theorem startPass_inReset (v : Fin 4) (s : State) :
    (startPass v s).inReset = s.inReset := by
  simp [startPass, State.setView]
@[simp] theorem startPass_port (v : Fin 4) (s : State) :
    (startPass v s).port = s.port := by
  simp [startPass, State.setView]
@[simp] theorem startPass_cmd (v : Fin 4) (s : State) :
    (startPass v s).cmd = s.cmd := by
  simp [startPass, State.setView]
@[simp] theorem startPass_dir (v : Fin 4) (s : State) :
    (startPass v s).dir = s.dir := by
  simp [startPass, State.setView]
@[simp] theorem startPass_mem (v : Fin 4) (s : State) :
    (startPass v s).mem = s.mem := by
  simp [startPass, State.setView]
@[simp] theorem startPass_store (v : Fin 4) (s : State) :
    (startPass v s).store = s.store := by
  simp [startPass, State.setView]
@[simp] theorem startPass_arb (v : Fin 4) (s : State) :
    (startPass v s).arb = s.arb := by
  simp [startPass, State.setView]
@[simp] theorem startPass_sweep (v : Fin 4) (s : State) :
    (startPass v s).sweep = s.sweep := by
  simp [startPass, State.setView]
@[simp] theorem startPass_phrases (v : Fin 4) (s : State) :
    (startPass v s).phrases = s.phrases := by
  simp [startPass, State.setView]
@[simp] theorem startPass_clock (v : Fin 4) (s : State) :
    (startPass v s).clock = s.clock := by
  simp [startPass, State.setView]
@[simp] theorem startPass_retire (v : Fin 4) (s : State) :
    (startPass v s).retire = s.retire := by
  simp [startPass, State.setView]
@[simp] theorem startPass_composer (v : Fin 4) (s : State) :
    (startPass v s).composer = s.composer := by
  simp [startPass, State.setView]
@[simp] theorem startPass_links (v : Fin 4) (s : State) :
    (startPass v s).links = s.links := by
  simp [startPass, State.setView]
@[simp] theorem startPass_events (v : Fin 4) (s : State) :
    (startPass v s).events = s.events := by
  simp [startPass, State.setView]

/-! ## refreshTick -/

@[simp] theorem refreshTick_pending (v : Fin 4) (s : State) :
    (refreshTick v s).pending = s.pending := by
  unfold refreshTick; (repeat' split) <;> simp [State.setView]
@[simp] theorem refreshTick_inReset (v : Fin 4) (s : State) :
    (refreshTick v s).inReset = s.inReset := by
  unfold refreshTick; (repeat' split) <;> simp [State.setView]
@[simp] theorem refreshTick_port (v : Fin 4) (s : State) :
    (refreshTick v s).port = s.port := by
  unfold refreshTick; (repeat' split) <;> simp [State.setView]
@[simp] theorem refreshTick_cmd (v : Fin 4) (s : State) :
    (refreshTick v s).cmd = s.cmd := by
  unfold refreshTick; (repeat' split) <;> simp [State.setView]
@[simp] theorem refreshTick_dir (v : Fin 4) (s : State) :
    (refreshTick v s).dir = s.dir := by
  unfold refreshTick; (repeat' split) <;> simp [State.setView]
@[simp] theorem refreshTick_mem (v : Fin 4) (s : State) :
    (refreshTick v s).mem = s.mem := by
  unfold refreshTick; (repeat' split) <;> simp [State.setView]
@[simp] theorem refreshTick_store (v : Fin 4) (s : State) :
    (refreshTick v s).store = s.store := by
  unfold refreshTick; (repeat' split) <;> simp [State.setView]
@[simp] theorem refreshTick_arb (v : Fin 4) (s : State) :
    (refreshTick v s).arb = s.arb := by
  unfold refreshTick; (repeat' split) <;> simp [State.setView]
@[simp] theorem refreshTick_sweep (v : Fin 4) (s : State) :
    (refreshTick v s).sweep = s.sweep := by
  unfold refreshTick; (repeat' split) <;> simp [State.setView]
@[simp] theorem refreshTick_phrases (v : Fin 4) (s : State) :
    (refreshTick v s).phrases = s.phrases := by
  unfold refreshTick; (repeat' split) <;> simp [State.setView]
@[simp] theorem refreshTick_clock (v : Fin 4) (s : State) :
    (refreshTick v s).clock = s.clock := by
  unfold refreshTick; (repeat' split) <;> simp [State.setView]
@[simp] theorem refreshTick_retire (v : Fin 4) (s : State) :
    (refreshTick v s).retire = s.retire := by
  unfold refreshTick; (repeat' split) <;> simp [State.setView]
@[simp] theorem refreshTick_composer (v : Fin 4) (s : State) :
    (refreshTick v s).composer = s.composer := by
  unfold refreshTick; (repeat' split) <;> simp [State.setView]
@[simp] theorem refreshTick_links (v : Fin 4) (s : State) :
    (refreshTick v s).links = s.links := by
  unfold refreshTick; (repeat' split) <;> simp [State.setView]
@[simp] theorem refreshTick_events (v : Fin 4) (s : State) :
    (refreshTick v s).events = s.events := by
  unfold refreshTick; (repeat' split) <;> simp [State.setView]

/-! ## viewsTick -/

@[simp] theorem viewsTick_pending (s : State) :
    (viewsTick s).pending = s.pending := by
  simp [viewsTick]
@[simp] theorem viewsTick_inReset (s : State) :
    (viewsTick s).inReset = s.inReset := by
  simp [viewsTick]
@[simp] theorem viewsTick_port (s : State) :
    (viewsTick s).port = s.port := by
  simp [viewsTick]
@[simp] theorem viewsTick_cmd (s : State) :
    (viewsTick s).cmd = s.cmd := by
  simp [viewsTick]
@[simp] theorem viewsTick_dir (s : State) :
    (viewsTick s).dir = s.dir := by
  simp [viewsTick]
@[simp] theorem viewsTick_mem (s : State) :
    (viewsTick s).mem = s.mem := by
  simp [viewsTick]
@[simp] theorem viewsTick_store (s : State) :
    (viewsTick s).store = s.store := by
  simp [viewsTick]
@[simp] theorem viewsTick_arb (s : State) :
    (viewsTick s).arb = s.arb := by
  simp [viewsTick]
@[simp] theorem viewsTick_sweep (s : State) :
    (viewsTick s).sweep = s.sweep := by
  simp [viewsTick]
@[simp] theorem viewsTick_phrases (s : State) :
    (viewsTick s).phrases = s.phrases := by
  simp [viewsTick]
@[simp] theorem viewsTick_clock (s : State) :
    (viewsTick s).clock = s.clock := by
  simp [viewsTick]
@[simp] theorem viewsTick_retire (s : State) :
    (viewsTick s).retire = s.retire := by
  simp [viewsTick]
@[simp] theorem viewsTick_composer (s : State) :
    (viewsTick s).composer = s.composer := by
  simp [viewsTick]
@[simp] theorem viewsTick_links (s : State) :
    (viewsTick s).links = s.links := by
  simp [viewsTick]
@[simp] theorem viewsTick_events (s : State) :
    (viewsTick s).events = s.events := by
  simp [viewsTick]

/-! ## refreshTimerTick -/

@[simp] theorem refreshTimerTick_pending (v : Fin 4) (s : State) :
    (refreshTimerTick v s).pending = s.pending := by
  unfold refreshTimerTick; (repeat' split) <;> simp [State.setView]
@[simp] theorem refreshTimerTick_inReset (v : Fin 4) (s : State) :
    (refreshTimerTick v s).inReset = s.inReset := by
  unfold refreshTimerTick; (repeat' split) <;> simp [State.setView]
@[simp] theorem refreshTimerTick_port (v : Fin 4) (s : State) :
    (refreshTimerTick v s).port = s.port := by
  unfold refreshTimerTick; (repeat' split) <;> simp [State.setView]
@[simp] theorem refreshTimerTick_cmd (v : Fin 4) (s : State) :
    (refreshTimerTick v s).cmd = s.cmd := by
  unfold refreshTimerTick; (repeat' split) <;> simp [State.setView]
@[simp] theorem refreshTimerTick_dir (v : Fin 4) (s : State) :
    (refreshTimerTick v s).dir = s.dir := by
  unfold refreshTimerTick; (repeat' split) <;> simp [State.setView]
@[simp] theorem refreshTimerTick_mem (v : Fin 4) (s : State) :
    (refreshTimerTick v s).mem = s.mem := by
  unfold refreshTimerTick; (repeat' split) <;> simp [State.setView]
@[simp] theorem refreshTimerTick_store (v : Fin 4) (s : State) :
    (refreshTimerTick v s).store = s.store := by
  unfold refreshTimerTick; (repeat' split) <;> simp [State.setView]
@[simp] theorem refreshTimerTick_arb (v : Fin 4) (s : State) :
    (refreshTimerTick v s).arb = s.arb := by
  unfold refreshTimerTick; (repeat' split) <;> simp [State.setView]
@[simp] theorem refreshTimerTick_sweep (v : Fin 4) (s : State) :
    (refreshTimerTick v s).sweep = s.sweep := by
  unfold refreshTimerTick; (repeat' split) <;> simp [State.setView]
@[simp] theorem refreshTimerTick_phrases (v : Fin 4) (s : State) :
    (refreshTimerTick v s).phrases = s.phrases := by
  unfold refreshTimerTick; (repeat' split) <;> simp [State.setView]
@[simp] theorem refreshTimerTick_clock (v : Fin 4) (s : State) :
    (refreshTimerTick v s).clock = s.clock := by
  unfold refreshTimerTick; (repeat' split) <;> simp [State.setView]
@[simp] theorem refreshTimerTick_retire (v : Fin 4) (s : State) :
    (refreshTimerTick v s).retire = s.retire := by
  unfold refreshTimerTick; (repeat' split) <;> simp [State.setView]
@[simp] theorem refreshTimerTick_composer (v : Fin 4) (s : State) :
    (refreshTimerTick v s).composer = s.composer := by
  unfold refreshTimerTick; (repeat' split) <;> simp [State.setView]
@[simp] theorem refreshTimerTick_links (v : Fin 4) (s : State) :
    (refreshTimerTick v s).links = s.links := by
  unfold refreshTimerTick; (repeat' split) <;> simp [State.setView]
@[simp] theorem refreshTimerTick_events (v : Fin 4) (s : State) :
    (refreshTimerTick v s).events = s.events := by
  unfold refreshTimerTick; (repeat' split) <;> simp [State.setView]

/-! ## viewTimersTick -/

@[simp] theorem viewTimersTick_pending (s : State) :
    (viewTimersTick s).pending = s.pending := by
  simp [viewTimersTick]
@[simp] theorem viewTimersTick_inReset (s : State) :
    (viewTimersTick s).inReset = s.inReset := by
  simp [viewTimersTick]
@[simp] theorem viewTimersTick_port (s : State) :
    (viewTimersTick s).port = s.port := by
  simp [viewTimersTick]
@[simp] theorem viewTimersTick_cmd (s : State) :
    (viewTimersTick s).cmd = s.cmd := by
  simp [viewTimersTick]
@[simp] theorem viewTimersTick_dir (s : State) :
    (viewTimersTick s).dir = s.dir := by
  simp [viewTimersTick]
@[simp] theorem viewTimersTick_mem (s : State) :
    (viewTimersTick s).mem = s.mem := by
  simp [viewTimersTick]
@[simp] theorem viewTimersTick_store (s : State) :
    (viewTimersTick s).store = s.store := by
  simp [viewTimersTick]
@[simp] theorem viewTimersTick_arb (s : State) :
    (viewTimersTick s).arb = s.arb := by
  simp [viewTimersTick]
@[simp] theorem viewTimersTick_sweep (s : State) :
    (viewTimersTick s).sweep = s.sweep := by
  simp [viewTimersTick]
@[simp] theorem viewTimersTick_phrases (s : State) :
    (viewTimersTick s).phrases = s.phrases := by
  simp [viewTimersTick]
@[simp] theorem viewTimersTick_clock (s : State) :
    (viewTimersTick s).clock = s.clock := by
  simp [viewTimersTick]
@[simp] theorem viewTimersTick_retire (s : State) :
    (viewTimersTick s).retire = s.retire := by
  simp [viewTimersTick]
@[simp] theorem viewTimersTick_composer (s : State) :
    (viewTimersTick s).composer = s.composer := by
  simp [viewTimersTick]
@[simp] theorem viewTimersTick_links (s : State) :
    (viewTimersTick s).links = s.links := by
  simp [viewTimersTick]
@[simp] theorem viewTimersTick_events (s : State) :
    (viewTimersTick s).events = s.events := by
  simp [viewTimersTick]

/-! ## advanceRequest -/

@[simp] theorem advanceRequest_pending (v : Fin 4) (s : State) :
    (advanceRequest v s).pending = s.pending := by
  unfold advanceRequest; (repeat' split) <;> simp [State.setView]
@[simp] theorem advanceRequest_inReset (v : Fin 4) (s : State) :
    (advanceRequest v s).inReset = s.inReset := by
  unfold advanceRequest; (repeat' split) <;> simp [State.setView]
@[simp] theorem advanceRequest_port (v : Fin 4) (s : State) :
    (advanceRequest v s).port = s.port := by
  unfold advanceRequest; (repeat' split) <;> simp [State.setView]
@[simp] theorem advanceRequest_cmd (v : Fin 4) (s : State) :
    (advanceRequest v s).cmd = s.cmd := by
  unfold advanceRequest; (repeat' split) <;> simp [State.setView]
@[simp] theorem advanceRequest_dir (v : Fin 4) (s : State) :
    (advanceRequest v s).dir = s.dir := by
  unfold advanceRequest; (repeat' split) <;> simp [State.setView]
@[simp] theorem advanceRequest_mem (v : Fin 4) (s : State) :
    (advanceRequest v s).mem = s.mem := by
  unfold advanceRequest; (repeat' split) <;> simp [State.setView]
@[simp] theorem advanceRequest_store (v : Fin 4) (s : State) :
    (advanceRequest v s).store = s.store := by
  unfold advanceRequest; (repeat' split) <;> simp [State.setView]
@[simp] theorem advanceRequest_arb (v : Fin 4) (s : State) :
    (advanceRequest v s).arb = s.arb := by
  unfold advanceRequest; (repeat' split) <;> simp [State.setView]
@[simp] theorem advanceRequest_sweep (v : Fin 4) (s : State) :
    (advanceRequest v s).sweep = s.sweep := by
  unfold advanceRequest; (repeat' split) <;> simp [State.setView]
@[simp] theorem advanceRequest_phrases (v : Fin 4) (s : State) :
    (advanceRequest v s).phrases = s.phrases := by
  unfold advanceRequest; (repeat' split) <;> simp [State.setView]
@[simp] theorem advanceRequest_clock (v : Fin 4) (s : State) :
    (advanceRequest v s).clock = s.clock := by
  unfold advanceRequest; (repeat' split) <;> simp [State.setView]
@[simp] theorem advanceRequest_retire (v : Fin 4) (s : State) :
    (advanceRequest v s).retire = s.retire := by
  unfold advanceRequest; (repeat' split) <;> simp [State.setView]
@[simp] theorem advanceRequest_composer (v : Fin 4) (s : State) :
    (advanceRequest v s).composer = s.composer := by
  unfold advanceRequest; (repeat' split) <;> simp [State.setView]
@[simp] theorem advanceRequest_links (v : Fin 4) (s : State) :
    (advanceRequest v s).links = s.links := by
  unfold advanceRequest; (repeat' split) <;> simp [State.setView]
@[simp] theorem advanceRequest_events (v : Fin 4) (s : State) :
    (advanceRequest v s).events = s.events := by
  unfold advanceRequest; (repeat' split) <;> simp [State.setView]

/-! ## setComposing -/

@[simp] theorem setComposing_pending (c : Composing) (s : State) :
    (s.setComposing c).pending = s.pending := by
  simp [State.setComposing]
@[simp] theorem setComposing_inReset (c : Composing) (s : State) :
    (s.setComposing c).inReset = s.inReset := by
  simp [State.setComposing]
@[simp] theorem setComposing_port (c : Composing) (s : State) :
    (s.setComposing c).port = s.port := by
  simp [State.setComposing]
@[simp] theorem setComposing_cmd (c : Composing) (s : State) :
    (s.setComposing c).cmd = s.cmd := by
  simp [State.setComposing]
@[simp] theorem setComposing_dir (c : Composing) (s : State) :
    (s.setComposing c).dir = s.dir := by
  simp [State.setComposing]
@[simp] theorem setComposing_mem (c : Composing) (s : State) :
    (s.setComposing c).mem = s.mem := by
  simp [State.setComposing]
@[simp] theorem setComposing_store (c : Composing) (s : State) :
    (s.setComposing c).store = s.store := by
  simp [State.setComposing]
@[simp] theorem setComposing_arb (c : Composing) (s : State) :
    (s.setComposing c).arb = s.arb := by
  simp [State.setComposing]
@[simp] theorem setComposing_sweep (c : Composing) (s : State) :
    (s.setComposing c).sweep = s.sweep := by
  simp [State.setComposing]
@[simp] theorem setComposing_phrases (c : Composing) (s : State) :
    (s.setComposing c).phrases = s.phrases := by
  simp [State.setComposing]
@[simp] theorem setComposing_clock (c : Composing) (s : State) :
    (s.setComposing c).clock = s.clock := by
  simp [State.setComposing]
@[simp] theorem setComposing_retire (c : Composing) (s : State) :
    (s.setComposing c).retire = s.retire := by
  simp [State.setComposing]
@[simp] theorem setComposing_views (c : Composing) (s : State) :
    (s.setComposing c).views = s.views := by
  simp [State.setComposing]
@[simp] theorem setComposing_links (c : Composing) (s : State) :
    (s.setComposing c).links = s.links := by
  simp [State.setComposing]
@[simp] theorem setComposing_events (c : Composing) (s : State) :
    (s.setComposing c).events = s.events := by
  simp [State.setComposing]

/-! ## discardParked -/

@[simp] theorem discardParked_pending (v : Fin 4) (s : State) :
    (discardParked v s).pending = s.pending := by
  simp [discardParked, State.setLink]
@[simp] theorem discardParked_inReset (v : Fin 4) (s : State) :
    (discardParked v s).inReset = s.inReset := by
  simp [discardParked, State.setLink]
@[simp] theorem discardParked_port (v : Fin 4) (s : State) :
    (discardParked v s).port = s.port := by
  simp [discardParked, State.setLink]
@[simp] theorem discardParked_cmd (v : Fin 4) (s : State) :
    (discardParked v s).cmd = s.cmd := by
  simp [discardParked, State.setLink]
@[simp] theorem discardParked_dir (v : Fin 4) (s : State) :
    (discardParked v s).dir = s.dir := by
  simp [discardParked, State.setLink]
@[simp] theorem discardParked_mem (v : Fin 4) (s : State) :
    (discardParked v s).mem = s.mem := by
  simp [discardParked, State.setLink]
@[simp] theorem discardParked_store (v : Fin 4) (s : State) :
    (discardParked v s).store = s.store := by
  simp [discardParked, State.setLink]
@[simp] theorem discardParked_arb (v : Fin 4) (s : State) :
    (discardParked v s).arb = s.arb := by
  simp [discardParked, State.setLink]
@[simp] theorem discardParked_sweep (v : Fin 4) (s : State) :
    (discardParked v s).sweep = s.sweep := by
  simp [discardParked, State.setLink]
@[simp] theorem discardParked_phrases (v : Fin 4) (s : State) :
    (discardParked v s).phrases = s.phrases := by
  simp [discardParked, State.setLink]
@[simp] theorem discardParked_clock (v : Fin 4) (s : State) :
    (discardParked v s).clock = s.clock := by
  simp [discardParked, State.setLink]
@[simp] theorem discardParked_retire (v : Fin 4) (s : State) :
    (discardParked v s).retire = s.retire := by
  simp [discardParked, State.setLink]
@[simp] theorem discardParked_views (v : Fin 4) (s : State) :
    (discardParked v s).views = s.views := by
  simp [discardParked, State.setLink]
@[simp] theorem discardParked_composer (v : Fin 4) (s : State) :
    (discardParked v s).composer = s.composer := by
  simp [discardParked, State.setLink]
@[simp] theorem discardParked_events (v : Fin 4) (s : State) :
    (discardParked v s).events = s.events := by
  simp [discardParked, State.setLink]

/-! ## reviveLink -/

@[simp] theorem reviveLink_pending (v : Fin 4) (s : State) :
    (reviveLink v s).pending = s.pending := by
  unfold reviveLink; split <;> simp [State.setLink]
@[simp] theorem reviveLink_inReset (v : Fin 4) (s : State) :
    (reviveLink v s).inReset = s.inReset := by
  unfold reviveLink; split <;> simp [State.setLink]
@[simp] theorem reviveLink_port (v : Fin 4) (s : State) :
    (reviveLink v s).port = s.port := by
  unfold reviveLink; split <;> simp [State.setLink]
@[simp] theorem reviveLink_cmd (v : Fin 4) (s : State) :
    (reviveLink v s).cmd = s.cmd := by
  unfold reviveLink; split <;> simp [State.setLink]
@[simp] theorem reviveLink_dir (v : Fin 4) (s : State) :
    (reviveLink v s).dir = s.dir := by
  unfold reviveLink; split <;> simp [State.setLink]
@[simp] theorem reviveLink_mem (v : Fin 4) (s : State) :
    (reviveLink v s).mem = s.mem := by
  unfold reviveLink; split <;> simp [State.setLink]
@[simp] theorem reviveLink_store (v : Fin 4) (s : State) :
    (reviveLink v s).store = s.store := by
  unfold reviveLink; split <;> simp [State.setLink]
@[simp] theorem reviveLink_arb (v : Fin 4) (s : State) :
    (reviveLink v s).arb = s.arb := by
  unfold reviveLink; split <;> simp [State.setLink]
@[simp] theorem reviveLink_sweep (v : Fin 4) (s : State) :
    (reviveLink v s).sweep = s.sweep := by
  unfold reviveLink; split <;> simp [State.setLink]
@[simp] theorem reviveLink_phrases (v : Fin 4) (s : State) :
    (reviveLink v s).phrases = s.phrases := by
  unfold reviveLink; split <;> simp [State.setLink]
@[simp] theorem reviveLink_clock (v : Fin 4) (s : State) :
    (reviveLink v s).clock = s.clock := by
  unfold reviveLink; split <;> simp [State.setLink]
@[simp] theorem reviveLink_retire (v : Fin 4) (s : State) :
    (reviveLink v s).retire = s.retire := by
  unfold reviveLink; split <;> simp [State.setLink]
@[simp] theorem reviveLink_views (v : Fin 4) (s : State) :
    (reviveLink v s).views = s.views := by
  unfold reviveLink; split <;> simp [State.setLink]
@[simp] theorem reviveLink_composer (v : Fin 4) (s : State) :
    (reviveLink v s).composer = s.composer := by
  unfold reviveLink; split <;> simp [State.setLink]
@[simp] theorem reviveLink_events (v : Fin 4) (s : State) :
    (reviveLink v s).events = s.events := by
  unfold reviveLink; split <;> simp [State.setLink]

/-! ## placeRow -/

@[simp] theorem placeRow_pending (v : Fin 4) (c : RowContent) (s : State) :
    (placeRow v c s).pending = s.pending := by
  unfold placeRow; simp only; split <;> simp [State.setView, State.setLink, State.setComposing]
@[simp] theorem placeRow_inReset (v : Fin 4) (c : RowContent) (s : State) :
    (placeRow v c s).inReset = s.inReset := by
  unfold placeRow; simp only; split <;> simp [State.setView, State.setLink, State.setComposing]
@[simp] theorem placeRow_port (v : Fin 4) (c : RowContent) (s : State) :
    (placeRow v c s).port = s.port := by
  unfold placeRow; simp only; split <;> simp [State.setView, State.setLink, State.setComposing]
@[simp] theorem placeRow_cmd (v : Fin 4) (c : RowContent) (s : State) :
    (placeRow v c s).cmd = s.cmd := by
  unfold placeRow; simp only; split <;> simp [State.setView, State.setLink, State.setComposing]
@[simp] theorem placeRow_dir (v : Fin 4) (c : RowContent) (s : State) :
    (placeRow v c s).dir = s.dir := by
  unfold placeRow; simp only; split <;> simp [State.setView, State.setLink, State.setComposing]
@[simp] theorem placeRow_mem (v : Fin 4) (c : RowContent) (s : State) :
    (placeRow v c s).mem = s.mem := by
  unfold placeRow; simp only; split <;> simp [State.setView, State.setLink, State.setComposing]
@[simp] theorem placeRow_store (v : Fin 4) (c : RowContent) (s : State) :
    (placeRow v c s).store = s.store := by
  unfold placeRow; simp only; split <;> simp [State.setView, State.setLink, State.setComposing]
@[simp] theorem placeRow_arb (v : Fin 4) (c : RowContent) (s : State) :
    (placeRow v c s).arb = s.arb := by
  unfold placeRow; simp only; split <;> simp [State.setView, State.setLink, State.setComposing]
@[simp] theorem placeRow_sweep (v : Fin 4) (c : RowContent) (s : State) :
    (placeRow v c s).sweep = s.sweep := by
  unfold placeRow; simp only; split <;> simp [State.setView, State.setLink, State.setComposing]
@[simp] theorem placeRow_phrases (v : Fin 4) (c : RowContent) (s : State) :
    (placeRow v c s).phrases = s.phrases := by
  unfold placeRow; simp only; split <;> simp [State.setView, State.setLink, State.setComposing]
@[simp] theorem placeRow_clock (v : Fin 4) (c : RowContent) (s : State) :
    (placeRow v c s).clock = s.clock := by
  unfold placeRow; simp only; split <;> simp [State.setView, State.setLink, State.setComposing]
@[simp] theorem placeRow_retire (v : Fin 4) (c : RowContent) (s : State) :
    (placeRow v c s).retire = s.retire := by
  unfold placeRow; simp only; split <;> simp [State.setView, State.setLink, State.setComposing]
@[simp] theorem placeRow_events (v : Fin 4) (c : RowContent) (s : State) :
    (placeRow v c s).events = s.events := by
  unfold placeRow; simp only; split <;> simp [State.setView, State.setLink, State.setComposing]

/-! ## continueSearch -/

@[simp] theorem continueSearch_pending (x : Extent) (v : Fin 4) (s : State) :
    (continueSearch x v s).pending = s.pending := by
  unfold continueSearch; split <;> simp [State.setView, State.setComposing]
@[simp] theorem continueSearch_inReset (x : Extent) (v : Fin 4) (s : State) :
    (continueSearch x v s).inReset = s.inReset := by
  unfold continueSearch; split <;> simp [State.setView, State.setComposing]
@[simp] theorem continueSearch_port (x : Extent) (v : Fin 4) (s : State) :
    (continueSearch x v s).port = s.port := by
  unfold continueSearch; split <;> simp [State.setView, State.setComposing]
@[simp] theorem continueSearch_cmd (x : Extent) (v : Fin 4) (s : State) :
    (continueSearch x v s).cmd = s.cmd := by
  unfold continueSearch; split <;> simp [State.setView, State.setComposing]
@[simp] theorem continueSearch_dir (x : Extent) (v : Fin 4) (s : State) :
    (continueSearch x v s).dir = s.dir := by
  unfold continueSearch; split <;> simp [State.setView, State.setComposing]
@[simp] theorem continueSearch_mem (x : Extent) (v : Fin 4) (s : State) :
    (continueSearch x v s).mem = s.mem := by
  unfold continueSearch; split <;> simp [State.setView, State.setComposing]
@[simp] theorem continueSearch_store (x : Extent) (v : Fin 4) (s : State) :
    (continueSearch x v s).store = s.store := by
  unfold continueSearch; split <;> simp [State.setView, State.setComposing]
@[simp] theorem continueSearch_phrases (x : Extent) (v : Fin 4) (s : State) :
    (continueSearch x v s).phrases = s.phrases := by
  unfold continueSearch; split <;> simp [State.setView, State.setComposing]
@[simp] theorem continueSearch_clock (x : Extent) (v : Fin 4) (s : State) :
    (continueSearch x v s).clock = s.clock := by
  unfold continueSearch; split <;> simp [State.setView, State.setComposing]
@[simp] theorem continueSearch_retire (x : Extent) (v : Fin 4) (s : State) :
    (continueSearch x v s).retire = s.retire := by
  unfold continueSearch; split <;> simp [State.setView, State.setComposing]
@[simp] theorem continueSearch_events (x : Extent) (v : Fin 4) (s : State) :
    (continueSearch x v s).events = s.events := by
  unfold continueSearch; split <;> simp [State.setView, State.setComposing]

/-! ## composeOther -/

@[simp] theorem composeOther_pending (x : Extent) (v : Fin 4) (s : State) :
    (composeOther x v s).pending = s.pending := by
  unfold composeOther; split <;> simp
@[simp] theorem composeOther_inReset (x : Extent) (v : Fin 4) (s : State) :
    (composeOther x v s).inReset = s.inReset := by
  unfold composeOther; split <;> simp
@[simp] theorem composeOther_port (x : Extent) (v : Fin 4) (s : State) :
    (composeOther x v s).port = s.port := by
  unfold composeOther; split <;> simp
@[simp] theorem composeOther_cmd (x : Extent) (v : Fin 4) (s : State) :
    (composeOther x v s).cmd = s.cmd := by
  unfold composeOther; split <;> simp
@[simp] theorem composeOther_dir (x : Extent) (v : Fin 4) (s : State) :
    (composeOther x v s).dir = s.dir := by
  unfold composeOther; split <;> simp
@[simp] theorem composeOther_mem (x : Extent) (v : Fin 4) (s : State) :
    (composeOther x v s).mem = s.mem := by
  unfold composeOther; split <;> simp
@[simp] theorem composeOther_store (x : Extent) (v : Fin 4) (s : State) :
    (composeOther x v s).store = s.store := by
  unfold composeOther; split <;> simp
@[simp] theorem composeOther_phrases (x : Extent) (v : Fin 4) (s : State) :
    (composeOther x v s).phrases = s.phrases := by
  unfold composeOther; split <;> simp
@[simp] theorem composeOther_clock (x : Extent) (v : Fin 4) (s : State) :
    (composeOther x v s).clock = s.clock := by
  unfold composeOther; split <;> simp
@[simp] theorem composeOther_retire (x : Extent) (v : Fin 4) (s : State) :
    (composeOther x v s).retire = s.retire := by
  unfold composeOther; split <;> simp
@[simp] theorem composeOther_events (x : Extent) (v : Fin 4) (s : State) :
    (composeOther x v s).events = s.events := by
  unfold composeOther; split <;> simp

/-! ## composeRow -/

@[simp] theorem composeRow_pending (x : Extent) (v : Fin 4) (s : State) :
    (composeRow x v s).pending = s.pending := by
  unfold composeRow; simp only; (repeat' split) <;> simp [State.setView]
@[simp] theorem composeRow_inReset (x : Extent) (v : Fin 4) (s : State) :
    (composeRow x v s).inReset = s.inReset := by
  unfold composeRow; simp only; (repeat' split) <;> simp [State.setView]
@[simp] theorem composeRow_port (x : Extent) (v : Fin 4) (s : State) :
    (composeRow x v s).port = s.port := by
  unfold composeRow; simp only; (repeat' split) <;> simp [State.setView]
@[simp] theorem composeRow_cmd (x : Extent) (v : Fin 4) (s : State) :
    (composeRow x v s).cmd = s.cmd := by
  unfold composeRow; simp only; (repeat' split) <;> simp [State.setView]
@[simp] theorem composeRow_dir (x : Extent) (v : Fin 4) (s : State) :
    (composeRow x v s).dir = s.dir := by
  unfold composeRow; simp only; (repeat' split) <;> simp [State.setView]
@[simp] theorem composeRow_mem (x : Extent) (v : Fin 4) (s : State) :
    (composeRow x v s).mem = s.mem := by
  unfold composeRow; simp only; (repeat' split) <;> simp [State.setView]
@[simp] theorem composeRow_store (x : Extent) (v : Fin 4) (s : State) :
    (composeRow x v s).store = s.store := by
  unfold composeRow; simp only; (repeat' split) <;> simp [State.setView]
@[simp] theorem composeRow_phrases (x : Extent) (v : Fin 4) (s : State) :
    (composeRow x v s).phrases = s.phrases := by
  unfold composeRow; simp only; (repeat' split) <;> simp [State.setView]
@[simp] theorem composeRow_clock (x : Extent) (v : Fin 4) (s : State) :
    (composeRow x v s).clock = s.clock := by
  unfold composeRow; simp only; (repeat' split) <;> simp [State.setView]
@[simp] theorem composeRow_retire (x : Extent) (v : Fin 4) (s : State) :
    (composeRow x v s).retire = s.retire := by
  unfold composeRow; simp only; (repeat' split) <;> simp [State.setView]
@[simp] theorem composeRow_events (x : Extent) (v : Fin 4) (s : State) :
    (composeRow x v s).events = s.events := by
  unfold composeRow; simp only; (repeat' split) <;> simp [State.setView]

/-! ## startComposition -/

@[simp] theorem startComposition_pending (x : Extent) (s : State) :
    (startComposition x s).pending = s.pending := by
  unfold startComposition; (repeat' split) <;> simp [takeView]
@[simp] theorem startComposition_inReset (x : Extent) (s : State) :
    (startComposition x s).inReset = s.inReset := by
  unfold startComposition; (repeat' split) <;> simp [takeView]
@[simp] theorem startComposition_port (x : Extent) (s : State) :
    (startComposition x s).port = s.port := by
  unfold startComposition; (repeat' split) <;> simp [takeView]
@[simp] theorem startComposition_cmd (x : Extent) (s : State) :
    (startComposition x s).cmd = s.cmd := by
  unfold startComposition; (repeat' split) <;> simp [takeView]
@[simp] theorem startComposition_dir (x : Extent) (s : State) :
    (startComposition x s).dir = s.dir := by
  unfold startComposition; (repeat' split) <;> simp [takeView]
@[simp] theorem startComposition_mem (x : Extent) (s : State) :
    (startComposition x s).mem = s.mem := by
  unfold startComposition; (repeat' split) <;> simp [takeView]
@[simp] theorem startComposition_store (x : Extent) (s : State) :
    (startComposition x s).store = s.store := by
  unfold startComposition; (repeat' split) <;> simp [takeView]
@[simp] theorem startComposition_phrases (x : Extent) (s : State) :
    (startComposition x s).phrases = s.phrases := by
  unfold startComposition; (repeat' split) <;> simp [takeView]
@[simp] theorem startComposition_clock (x : Extent) (s : State) :
    (startComposition x s).clock = s.clock := by
  unfold startComposition; (repeat' split) <;> simp [takeView]
@[simp] theorem startComposition_retire (x : Extent) (s : State) :
    (startComposition x s).retire = s.retire := by
  unfold startComposition; (repeat' split) <;> simp [takeView]
@[simp] theorem startComposition_events (x : Extent) (s : State) :
    (startComposition x s).events = s.events := by
  unfold startComposition; (repeat' split) <;> simp [takeView]

/-! ## compositionStep -/

@[simp] theorem compositionStep_pending (x : Extent) (s : State) :
    (compositionStep x s).pending = s.pending := by
  unfold compositionStep; (repeat' split) <;> simp
@[simp] theorem compositionStep_inReset (x : Extent) (s : State) :
    (compositionStep x s).inReset = s.inReset := by
  unfold compositionStep; (repeat' split) <;> simp
@[simp] theorem compositionStep_port (x : Extent) (s : State) :
    (compositionStep x s).port = s.port := by
  unfold compositionStep; (repeat' split) <;> simp
@[simp] theorem compositionStep_cmd (x : Extent) (s : State) :
    (compositionStep x s).cmd = s.cmd := by
  unfold compositionStep; (repeat' split) <;> simp
@[simp] theorem compositionStep_dir (x : Extent) (s : State) :
    (compositionStep x s).dir = s.dir := by
  unfold compositionStep; (repeat' split) <;> simp
@[simp] theorem compositionStep_mem (x : Extent) (s : State) :
    (compositionStep x s).mem = s.mem := by
  unfold compositionStep; (repeat' split) <;> simp
@[simp] theorem compositionStep_store (x : Extent) (s : State) :
    (compositionStep x s).store = s.store := by
  unfold compositionStep; (repeat' split) <;> simp
@[simp] theorem compositionStep_phrases (x : Extent) (s : State) :
    (compositionStep x s).phrases = s.phrases := by
  unfold compositionStep; (repeat' split) <;> simp
@[simp] theorem compositionStep_clock (x : Extent) (s : State) :
    (compositionStep x s).clock = s.clock := by
  unfold compositionStep; (repeat' split) <;> simp
@[simp] theorem compositionStep_retire (x : Extent) (s : State) :
    (compositionStep x s).retire = s.retire := by
  unfold compositionStep; (repeat' split) <;> simp
@[simp] theorem compositionStep_events (x : Extent) (s : State) :
    (compositionStep x s).events = s.events := by
  unfold compositionStep; (repeat' split) <;> simp

/-! ## searchAgain -/

@[simp] theorem searchAgain_pending (x : Extent) (v : Fin 4) (s : State) :
    (searchAgain x v s).pending = s.pending := by
  unfold searchAgain; split <;> simp [State.setComposing]
@[simp] theorem searchAgain_inReset (x : Extent) (v : Fin 4) (s : State) :
    (searchAgain x v s).inReset = s.inReset := by
  unfold searchAgain; split <;> simp [State.setComposing]
@[simp] theorem searchAgain_port (x : Extent) (v : Fin 4) (s : State) :
    (searchAgain x v s).port = s.port := by
  unfold searchAgain; split <;> simp [State.setComposing]
@[simp] theorem searchAgain_cmd (x : Extent) (v : Fin 4) (s : State) :
    (searchAgain x v s).cmd = s.cmd := by
  unfold searchAgain; split <;> simp [State.setComposing]
@[simp] theorem searchAgain_dir (x : Extent) (v : Fin 4) (s : State) :
    (searchAgain x v s).dir = s.dir := by
  unfold searchAgain; split <;> simp [State.setComposing]
@[simp] theorem searchAgain_mem (x : Extent) (v : Fin 4) (s : State) :
    (searchAgain x v s).mem = s.mem := by
  unfold searchAgain; split <;> simp [State.setComposing]
@[simp] theorem searchAgain_store (x : Extent) (v : Fin 4) (s : State) :
    (searchAgain x v s).store = s.store := by
  unfold searchAgain; split <;> simp [State.setComposing]
@[simp] theorem searchAgain_phrases (x : Extent) (v : Fin 4) (s : State) :
    (searchAgain x v s).phrases = s.phrases := by
  unfold searchAgain; split <;> simp [State.setComposing]
@[simp] theorem searchAgain_clock (x : Extent) (v : Fin 4) (s : State) :
    (searchAgain x v s).clock = s.clock := by
  unfold searchAgain; split <;> simp [State.setComposing]
@[simp] theorem searchAgain_retire (x : Extent) (v : Fin 4) (s : State) :
    (searchAgain x v s).retire = s.retire := by
  unfold searchAgain; split <;> simp [State.setComposing]
@[simp] theorem searchAgain_events (x : Extent) (v : Fin 4) (s : State) :
    (searchAgain x v s).events = s.events := by
  unfold searchAgain; split <;> simp [State.setComposing]

/-! ## unparkView -/

@[simp] theorem unparkView_pending (v : Fin 4) (s : State) :
    (unparkView v s).pending = s.pending := by
  unfold unparkView; split <;> simp [State.setView]
@[simp] theorem unparkView_inReset (v : Fin 4) (s : State) :
    (unparkView v s).inReset = s.inReset := by
  unfold unparkView; split <;> simp [State.setView]
@[simp] theorem unparkView_port (v : Fin 4) (s : State) :
    (unparkView v s).port = s.port := by
  unfold unparkView; split <;> simp [State.setView]
@[simp] theorem unparkView_cmd (v : Fin 4) (s : State) :
    (unparkView v s).cmd = s.cmd := by
  unfold unparkView; split <;> simp [State.setView]
@[simp] theorem unparkView_dir (v : Fin 4) (s : State) :
    (unparkView v s).dir = s.dir := by
  unfold unparkView; split <;> simp [State.setView]
@[simp] theorem unparkView_mem (v : Fin 4) (s : State) :
    (unparkView v s).mem = s.mem := by
  unfold unparkView; split <;> simp [State.setView]
@[simp] theorem unparkView_store (v : Fin 4) (s : State) :
    (unparkView v s).store = s.store := by
  unfold unparkView; split <;> simp [State.setView]
@[simp] theorem unparkView_arb (v : Fin 4) (s : State) :
    (unparkView v s).arb = s.arb := by
  unfold unparkView; split <;> simp [State.setView]
@[simp] theorem unparkView_sweep (v : Fin 4) (s : State) :
    (unparkView v s).sweep = s.sweep := by
  unfold unparkView; split <;> simp [State.setView]
@[simp] theorem unparkView_phrases (v : Fin 4) (s : State) :
    (unparkView v s).phrases = s.phrases := by
  unfold unparkView; split <;> simp [State.setView]
@[simp] theorem unparkView_clock (v : Fin 4) (s : State) :
    (unparkView v s).clock = s.clock := by
  unfold unparkView; split <;> simp [State.setView]
@[simp] theorem unparkView_retire (v : Fin 4) (s : State) :
    (unparkView v s).retire = s.retire := by
  unfold unparkView; split <;> simp [State.setView]
@[simp] theorem unparkView_composer (v : Fin 4) (s : State) :
    (unparkView v s).composer = s.composer := by
  unfold unparkView; split <;> simp [State.setView]
@[simp] theorem unparkView_links (v : Fin 4) (s : State) :
    (unparkView v s).links = s.links := by
  unfold unparkView; split <;> simp [State.setView]
@[simp] theorem unparkView_events (v : Fin 4) (s : State) :
    (unparkView v s).events = s.events := by
  unfold unparkView; split <;> simp [State.setView]

/-! ## haltView -/

@[simp] theorem haltView_pending (v : Fin 4) (s : State) :
    (haltView v s).pending = s.pending := by
  simp [haltView, State.setView]
@[simp] theorem haltView_inReset (v : Fin 4) (s : State) :
    (haltView v s).inReset = s.inReset := by
  simp [haltView, State.setView]
@[simp] theorem haltView_port (v : Fin 4) (s : State) :
    (haltView v s).port = s.port := by
  simp [haltView, State.setView]
@[simp] theorem haltView_cmd (v : Fin 4) (s : State) :
    (haltView v s).cmd = s.cmd := by
  simp [haltView, State.setView]
@[simp] theorem haltView_dir (v : Fin 4) (s : State) :
    (haltView v s).dir = s.dir := by
  simp [haltView, State.setView]
@[simp] theorem haltView_mem (v : Fin 4) (s : State) :
    (haltView v s).mem = s.mem := by
  simp [haltView, State.setView]
@[simp] theorem haltView_store (v : Fin 4) (s : State) :
    (haltView v s).store = s.store := by
  simp [haltView, State.setView]
@[simp] theorem haltView_sweep (v : Fin 4) (s : State) :
    (haltView v s).sweep = s.sweep := by
  simp [haltView, State.setView]
@[simp] theorem haltView_phrases (v : Fin 4) (s : State) :
    (haltView v s).phrases = s.phrases := by
  simp [haltView, State.setView]
@[simp] theorem haltView_clock (v : Fin 4) (s : State) :
    (haltView v s).clock = s.clock := by
  simp [haltView, State.setView]
@[simp] theorem haltView_retire (v : Fin 4) (s : State) :
    (haltView v s).retire = s.retire := by
  simp [haltView, State.setView]
@[simp] theorem haltView_links (v : Fin 4) (s : State) :
    (haltView v s).links = s.links := by
  simp [haltView, State.setView]
@[simp] theorem haltView_events (v : Fin 4) (s : State) :
    (haltView v s).events = s.events := by
  simp [haltView, State.setView]

/-! ## startPendingPass -/

@[simp] theorem startPendingPass_pending (s : State) :
    (startPendingPass s).pending = s.pending := by
  simp [startPendingPass]
@[simp] theorem startPendingPass_inReset (s : State) :
    (startPendingPass s).inReset = s.inReset := by
  simp [startPendingPass]
@[simp] theorem startPendingPass_port (s : State) :
    (startPendingPass s).port = s.port := by
  simp [startPendingPass]
@[simp] theorem startPendingPass_cmd (s : State) :
    (startPendingPass s).cmd = s.cmd := by
  simp [startPendingPass]
@[simp] theorem startPendingPass_dir (s : State) :
    (startPendingPass s).dir = s.dir := by
  simp [startPendingPass]
@[simp] theorem startPendingPass_mem (s : State) :
    (startPendingPass s).mem = s.mem := by
  simp [startPendingPass]
@[simp] theorem startPendingPass_store (s : State) :
    (startPendingPass s).store = s.store := by
  simp [startPendingPass]
@[simp] theorem startPendingPass_arb (s : State) :
    (startPendingPass s).arb = s.arb := by
  simp [startPendingPass]
@[simp] theorem startPendingPass_sweep (s : State) :
    (startPendingPass s).sweep = s.sweep := by
  simp [startPendingPass]
@[simp] theorem startPendingPass_phrases (s : State) :
    (startPendingPass s).phrases = s.phrases := by
  simp [startPendingPass]
@[simp] theorem startPendingPass_clock (s : State) :
    (startPendingPass s).clock = s.clock := by
  simp [startPendingPass]
@[simp] theorem startPendingPass_views (s : State) :
    (startPendingPass s).views = s.views := by
  simp [startPendingPass]
@[simp] theorem startPendingPass_composer (s : State) :
    (startPendingPass s).composer = s.composer := by
  simp [startPendingPass]
@[simp] theorem startPendingPass_links (s : State) :
    (startPendingPass s).links = s.links := by
  simp [startPendingPass]
@[simp] theorem startPendingPass_events (s : State) :
    (startPendingPass s).events = s.events := by
  simp [startPendingPass]

/-! ## requestPass -/

@[simp] theorem requestPass_pending (s : State) :
    (requestPass s).pending = s.pending := by
  unfold requestPass; split <;> simp
@[simp] theorem requestPass_inReset (s : State) :
    (requestPass s).inReset = s.inReset := by
  unfold requestPass; split <;> simp
@[simp] theorem requestPass_port (s : State) :
    (requestPass s).port = s.port := by
  unfold requestPass; split <;> simp
@[simp] theorem requestPass_cmd (s : State) :
    (requestPass s).cmd = s.cmd := by
  unfold requestPass; split <;> simp
@[simp] theorem requestPass_dir (s : State) :
    (requestPass s).dir = s.dir := by
  unfold requestPass; split <;> simp
@[simp] theorem requestPass_mem (s : State) :
    (requestPass s).mem = s.mem := by
  unfold requestPass; split <;> simp
@[simp] theorem requestPass_store (s : State) :
    (requestPass s).store = s.store := by
  unfold requestPass; split <;> simp
@[simp] theorem requestPass_arb (s : State) :
    (requestPass s).arb = s.arb := by
  unfold requestPass; split <;> simp
@[simp] theorem requestPass_sweep (s : State) :
    (requestPass s).sweep = s.sweep := by
  unfold requestPass; split <;> simp
@[simp] theorem requestPass_phrases (s : State) :
    (requestPass s).phrases = s.phrases := by
  unfold requestPass; split <;> simp
@[simp] theorem requestPass_clock (s : State) :
    (requestPass s).clock = s.clock := by
  unfold requestPass; split <;> simp
@[simp] theorem requestPass_views (s : State) :
    (requestPass s).views = s.views := by
  unfold requestPass; split <;> simp
@[simp] theorem requestPass_composer (s : State) :
    (requestPass s).composer = s.composer := by
  unfold requestPass; split <;> simp
@[simp] theorem requestPass_links (s : State) :
    (requestPass s).links = s.links := by
  unfold requestPass; split <;> simp
@[simp] theorem requestPass_events (s : State) :
    (requestPass s).events = s.events := by
  unfold requestPass; split <;> simp

/-! ## endPass -/

@[simp] theorem endPass_pending (s : State) :
    (endPass s).pending = s.pending := by
  unfold endPass; split <;> simp
@[simp] theorem endPass_inReset (s : State) :
    (endPass s).inReset = s.inReset := by
  unfold endPass; split <;> simp
@[simp] theorem endPass_port (s : State) :
    (endPass s).port = s.port := by
  unfold endPass; split <;> simp
@[simp] theorem endPass_cmd (s : State) :
    (endPass s).cmd = s.cmd := by
  unfold endPass; split <;> simp
@[simp] theorem endPass_dir (s : State) :
    (endPass s).dir = s.dir := by
  unfold endPass; split <;> simp
@[simp] theorem endPass_mem (s : State) :
    (endPass s).mem = s.mem := by
  unfold endPass; split <;> simp
@[simp] theorem endPass_store (s : State) :
    (endPass s).store = s.store := by
  unfold endPass; split <;> simp
@[simp] theorem endPass_arb (s : State) :
    (endPass s).arb = s.arb := by
  unfold endPass; split <;> simp
@[simp] theorem endPass_sweep (s : State) :
    (endPass s).sweep = s.sweep := by
  unfold endPass; split <;> simp
@[simp] theorem endPass_phrases (s : State) :
    (endPass s).phrases = s.phrases := by
  unfold endPass; split <;> simp
@[simp] theorem endPass_clock (s : State) :
    (endPass s).clock = s.clock := by
  unfold endPass; split <;> simp
@[simp] theorem endPass_views (s : State) :
    (endPass s).views = s.views := by
  unfold endPass; split <;> simp
@[simp] theorem endPass_composer (s : State) :
    (endPass s).composer = s.composer := by
  unfold endPass; split <;> simp
@[simp] theorem endPass_links (s : State) :
    (endPass s).links = s.links := by
  unfold endPass; split <;> simp
@[simp] theorem endPass_events (s : State) :
    (endPass s).events = s.events := by
  unfold endPass; split <;> simp

/-! ## minuteBoundary -/

@[simp] theorem minuteBoundary_pending (s : State) :
    (minuteBoundary s).pending = s.pending := by
  unfold minuteBoundary; split <;> simp
@[simp] theorem minuteBoundary_inReset (s : State) :
    (minuteBoundary s).inReset = s.inReset := by
  unfold minuteBoundary; split <;> simp
@[simp] theorem minuteBoundary_port (s : State) :
    (minuteBoundary s).port = s.port := by
  unfold minuteBoundary; split <;> simp
@[simp] theorem minuteBoundary_cmd (s : State) :
    (minuteBoundary s).cmd = s.cmd := by
  unfold minuteBoundary; split <;> simp
@[simp] theorem minuteBoundary_dir (s : State) :
    (minuteBoundary s).dir = s.dir := by
  unfold minuteBoundary; split <;> simp
@[simp] theorem minuteBoundary_mem (s : State) :
    (minuteBoundary s).mem = s.mem := by
  unfold minuteBoundary; split <;> simp
@[simp] theorem minuteBoundary_store (s : State) :
    (minuteBoundary s).store = s.store := by
  unfold minuteBoundary; split <;> simp
@[simp] theorem minuteBoundary_arb (s : State) :
    (minuteBoundary s).arb = s.arb := by
  unfold minuteBoundary; split <;> simp
@[simp] theorem minuteBoundary_sweep (s : State) :
    (minuteBoundary s).sweep = s.sweep := by
  unfold minuteBoundary; split <;> simp
@[simp] theorem minuteBoundary_phrases (s : State) :
    (minuteBoundary s).phrases = s.phrases := by
  unfold minuteBoundary; split <;> simp
@[simp] theorem minuteBoundary_views (s : State) :
    (minuteBoundary s).views = s.views := by
  unfold minuteBoundary; split <;> simp
@[simp] theorem minuteBoundary_composer (s : State) :
    (minuteBoundary s).composer = s.composer := by
  unfold minuteBoundary; split <;> simp
@[simp] theorem minuteBoundary_links (s : State) :
    (minuteBoundary s).links = s.links := by
  unfold minuteBoundary; split <;> simp
@[simp] theorem minuteBoundary_events (s : State) :
    (minuteBoundary s).events = s.events := by
  unfold minuteBoundary; split <;> simp

/-! ## clockTick -/

@[simp] theorem clockTick_pending (s : State) :
    (clockTick s).pending = s.pending := by
  unfold clockTick; split <;> simp
@[simp] theorem clockTick_inReset (s : State) :
    (clockTick s).inReset = s.inReset := by
  unfold clockTick; split <;> simp
@[simp] theorem clockTick_port (s : State) :
    (clockTick s).port = s.port := by
  unfold clockTick; split <;> simp
@[simp] theorem clockTick_cmd (s : State) :
    (clockTick s).cmd = s.cmd := by
  unfold clockTick; split <;> simp
@[simp] theorem clockTick_dir (s : State) :
    (clockTick s).dir = s.dir := by
  unfold clockTick; split <;> simp
@[simp] theorem clockTick_mem (s : State) :
    (clockTick s).mem = s.mem := by
  unfold clockTick; split <;> simp
@[simp] theorem clockTick_store (s : State) :
    (clockTick s).store = s.store := by
  unfold clockTick; split <;> simp
@[simp] theorem clockTick_arb (s : State) :
    (clockTick s).arb = s.arb := by
  unfold clockTick; split <;> simp
@[simp] theorem clockTick_sweep (s : State) :
    (clockTick s).sweep = s.sweep := by
  unfold clockTick; split <;> simp
@[simp] theorem clockTick_phrases (s : State) :
    (clockTick s).phrases = s.phrases := by
  unfold clockTick; split <;> simp
@[simp] theorem clockTick_views (s : State) :
    (clockTick s).views = s.views := by
  unfold clockTick; split <;> simp
@[simp] theorem clockTick_composer (s : State) :
    (clockTick s).composer = s.composer := by
  unfold clockTick; split <;> simp
@[simp] theorem clockTick_links (s : State) :
    (clockTick s).links = s.links := by
  unfold clockTick; split <;> simp
@[simp] theorem clockTick_events (s : State) :
    (clockTick s).events = s.events := by
  unfold clockTick; split <;> simp

/-! ## passLooksAt -/

@[simp] theorem passLooksAt_pending (e : Entry) (s : State) :
    (passLooksAt e s).pending = s.pending := by
  simp only [passLooksAt]; split <;> simp
@[simp] theorem passLooksAt_inReset (e : Entry) (s : State) :
    (passLooksAt e s).inReset = s.inReset := by
  simp only [passLooksAt]; split <;> simp
@[simp] theorem passLooksAt_port (e : Entry) (s : State) :
    (passLooksAt e s).port = s.port := by
  simp only [passLooksAt]; split <;> simp
@[simp] theorem passLooksAt_cmd (e : Entry) (s : State) :
    (passLooksAt e s).cmd = s.cmd := by
  simp only [passLooksAt]; split <;> simp
@[simp] theorem passLooksAt_mem (e : Entry) (s : State) :
    (passLooksAt e s).mem = s.mem := by
  simp only [passLooksAt]; split <;> simp
@[simp] theorem passLooksAt_store (e : Entry) (s : State) :
    (passLooksAt e s).store = s.store := by
  simp only [passLooksAt]; split <;> simp
@[simp] theorem passLooksAt_arb (e : Entry) (s : State) :
    (passLooksAt e s).arb = s.arb := by
  simp only [passLooksAt]; split <;> simp
@[simp] theorem passLooksAt_sweep (e : Entry) (s : State) :
    (passLooksAt e s).sweep = s.sweep := by
  simp only [passLooksAt]; split <;> simp
@[simp] theorem passLooksAt_clock (e : Entry) (s : State) :
    (passLooksAt e s).clock = s.clock := by
  simp only [passLooksAt]; split <;> simp
@[simp] theorem passLooksAt_views (e : Entry) (s : State) :
    (passLooksAt e s).views = s.views := by
  simp only [passLooksAt]; split <;> simp
@[simp] theorem passLooksAt_composer (e : Entry) (s : State) :
    (passLooksAt e s).composer = s.composer := by
  simp only [passLooksAt]; split <;> simp
@[simp] theorem passLooksAt_links (e : Entry) (s : State) :
    (passLooksAt e s).links = s.links := by
  simp only [passLooksAt]; split <;> simp

/-! ## passStep -/

@[simp] theorem passStep_pending (s : State) :
    (passStep s).pending = s.pending := by
  unfold passStep; (repeat' split) <;> simp
@[simp] theorem passStep_inReset (s : State) :
    (passStep s).inReset = s.inReset := by
  unfold passStep; (repeat' split) <;> simp
@[simp] theorem passStep_port (s : State) :
    (passStep s).port = s.port := by
  unfold passStep; (repeat' split) <;> simp
@[simp] theorem passStep_cmd (s : State) :
    (passStep s).cmd = s.cmd := by
  unfold passStep; (repeat' split) <;> simp
@[simp] theorem passStep_mem (s : State) :
    (passStep s).mem = s.mem := by
  unfold passStep; (repeat' split) <;> simp
@[simp] theorem passStep_store (s : State) :
    (passStep s).store = s.store := by
  unfold passStep; (repeat' split) <;> simp
@[simp] theorem passStep_arb (s : State) :
    (passStep s).arb = s.arb := by
  unfold passStep; (repeat' split) <;> simp
@[simp] theorem passStep_sweep (s : State) :
    (passStep s).sweep = s.sweep := by
  unfold passStep; (repeat' split) <;> simp
@[simp] theorem passStep_clock (s : State) :
    (passStep s).clock = s.clock := by
  unfold passStep; (repeat' split) <;> simp
@[simp] theorem passStep_views (s : State) :
    (passStep s).views = s.views := by
  unfold passStep; (repeat' split) <;> simp
@[simp] theorem passStep_composer (s : State) :
    (passStep s).composer = s.composer := by
  unfold passStep; (repeat' split) <;> simp
@[simp] theorem passStep_links (s : State) :
    (passStep s).links = s.links := by
  unfold passStep; (repeat' split) <;> simp

/-! ## silenceTick -/

@[simp] theorem silenceTick_pending (s : State) :
    (silenceTick s).pending = s.pending := by
  simp [silenceTick]
@[simp] theorem silenceTick_inReset (s : State) :
    (silenceTick s).inReset = s.inReset := by
  simp [silenceTick]
@[simp] theorem silenceTick_cmd (s : State) :
    (silenceTick s).cmd = s.cmd := by
  simp [silenceTick]
@[simp] theorem silenceTick_dir (s : State) :
    (silenceTick s).dir = s.dir := by
  simp [silenceTick]
@[simp] theorem silenceTick_mem (s : State) :
    (silenceTick s).mem = s.mem := by
  simp [silenceTick]
@[simp] theorem silenceTick_store (s : State) :
    (silenceTick s).store = s.store := by
  simp [silenceTick]
@[simp] theorem silenceTick_arb (s : State) :
    (silenceTick s).arb = s.arb := by
  simp [silenceTick]
@[simp] theorem silenceTick_sweep (s : State) :
    (silenceTick s).sweep = s.sweep := by
  simp [silenceTick]
@[simp] theorem silenceTick_phrases (s : State) :
    (silenceTick s).phrases = s.phrases := by
  simp [silenceTick]
@[simp] theorem silenceTick_clock (s : State) :
    (silenceTick s).clock = s.clock := by
  simp [silenceTick]
@[simp] theorem silenceTick_retire (s : State) :
    (silenceTick s).retire = s.retire := by
  simp [silenceTick]
@[simp] theorem silenceTick_views (s : State) :
    (silenceTick s).views = s.views := by
  simp [silenceTick]
@[simp] theorem silenceTick_composer (s : State) :
    (silenceTick s).composer = s.composer := by
  simp [silenceTick]
@[simp] theorem silenceTick_links (s : State) :
    (silenceTick s).links = s.links := by
  simp [silenceTick]
@[simp] theorem silenceTick_events (s : State) :
    (silenceTick s).events = s.events := by
  simp [silenceTick]

/-! ## restartSilence -/

@[simp] theorem restartSilence_pending (s : State) :
    (restartSilence s).pending = s.pending := by
  simp [restartSilence]
@[simp] theorem restartSilence_inReset (s : State) :
    (restartSilence s).inReset = s.inReset := by
  simp [restartSilence]
@[simp] theorem restartSilence_cmd (s : State) :
    (restartSilence s).cmd = s.cmd := by
  simp [restartSilence]
@[simp] theorem restartSilence_dir (s : State) :
    (restartSilence s).dir = s.dir := by
  simp [restartSilence]
@[simp] theorem restartSilence_mem (s : State) :
    (restartSilence s).mem = s.mem := by
  simp [restartSilence]
@[simp] theorem restartSilence_store (s : State) :
    (restartSilence s).store = s.store := by
  simp [restartSilence]
@[simp] theorem restartSilence_arb (s : State) :
    (restartSilence s).arb = s.arb := by
  simp [restartSilence]
@[simp] theorem restartSilence_sweep (s : State) :
    (restartSilence s).sweep = s.sweep := by
  simp [restartSilence]
@[simp] theorem restartSilence_phrases (s : State) :
    (restartSilence s).phrases = s.phrases := by
  simp [restartSilence]
@[simp] theorem restartSilence_clock (s : State) :
    (restartSilence s).clock = s.clock := by
  simp [restartSilence]
@[simp] theorem restartSilence_retire (s : State) :
    (restartSilence s).retire = s.retire := by
  simp [restartSilence]
@[simp] theorem restartSilence_views (s : State) :
    (restartSilence s).views = s.views := by
  simp [restartSilence]
@[simp] theorem restartSilence_composer (s : State) :
    (restartSilence s).composer = s.composer := by
  simp [restartSilence]
@[simp] theorem restartSilence_links (s : State) :
    (restartSilence s).links = s.links := by
  simp [restartSilence]
@[simp] theorem restartSilence_events (s : State) :
    (restartSilence s).events = s.events := by
  simp [restartSilence]

/-! ## holdTimersTick -/

@[simp] theorem holdTimersTick_pending (s : State) :
    (holdTimersTick s).pending = s.pending := by
  simp [holdTimersTick]
@[simp] theorem holdTimersTick_inReset (s : State) :
    (holdTimersTick s).inReset = s.inReset := by
  simp [holdTimersTick]
@[simp] theorem holdTimersTick_port (s : State) :
    (holdTimersTick s).port = s.port := by
  simp [holdTimersTick]
@[simp] theorem holdTimersTick_cmd (s : State) :
    (holdTimersTick s).cmd = s.cmd := by
  simp [holdTimersTick]
@[simp] theorem holdTimersTick_dir (s : State) :
    (holdTimersTick s).dir = s.dir := by
  simp [holdTimersTick]
@[simp] theorem holdTimersTick_mem (s : State) :
    (holdTimersTick s).mem = s.mem := by
  simp [holdTimersTick]
@[simp] theorem holdTimersTick_store (s : State) :
    (holdTimersTick s).store = s.store := by
  simp [holdTimersTick]
@[simp] theorem holdTimersTick_arb (s : State) :
    (holdTimersTick s).arb = s.arb := by
  simp [holdTimersTick]
@[simp] theorem holdTimersTick_sweep (s : State) :
    (holdTimersTick s).sweep = s.sweep := by
  simp [holdTimersTick]
@[simp] theorem holdTimersTick_phrases (s : State) :
    (holdTimersTick s).phrases = s.phrases := by
  simp [holdTimersTick]
@[simp] theorem holdTimersTick_clock (s : State) :
    (holdTimersTick s).clock = s.clock := by
  simp [holdTimersTick]
@[simp] theorem holdTimersTick_retire (s : State) :
    (holdTimersTick s).retire = s.retire := by
  simp [holdTimersTick]
@[simp] theorem holdTimersTick_views (s : State) :
    (holdTimersTick s).views = s.views := by
  simp [holdTimersTick]
@[simp] theorem holdTimersTick_composer (s : State) :
    (holdTimersTick s).composer = s.composer := by
  simp [holdTimersTick]
@[simp] theorem holdTimersTick_events (s : State) :
    (holdTimersTick s).events = s.events := by
  simp [holdTimersTick]

/-! ## changeNotice -/

@[simp] theorem changeNotice_pending (old new : Nat) (s : State) :
    (changeNotice old new s).pending = s.pending := by
  simp only [changeNotice]; (repeat' split) <;> simp
@[simp] theorem changeNotice_inReset (old new : Nat) (s : State) :
    (changeNotice old new s).inReset = s.inReset := by
  simp only [changeNotice]; (repeat' split) <;> simp
@[simp] theorem changeNotice_port (old new : Nat) (s : State) :
    (changeNotice old new s).port = s.port := by
  simp only [changeNotice]; (repeat' split) <;> simp
@[simp] theorem changeNotice_cmd (old new : Nat) (s : State) :
    (changeNotice old new s).cmd = s.cmd := by
  simp only [changeNotice]; (repeat' split) <;> simp
@[simp] theorem changeNotice_dir (old new : Nat) (s : State) :
    (changeNotice old new s).dir = s.dir := by
  simp only [changeNotice]; (repeat' split) <;> simp
@[simp] theorem changeNotice_mem (old new : Nat) (s : State) :
    (changeNotice old new s).mem = s.mem := by
  simp only [changeNotice]; (repeat' split) <;> simp
@[simp] theorem changeNotice_store (old new : Nat) (s : State) :
    (changeNotice old new s).store = s.store := by
  simp only [changeNotice]; (repeat' split) <;> simp
@[simp] theorem changeNotice_arb (old new : Nat) (s : State) :
    (changeNotice old new s).arb = s.arb := by
  simp only [changeNotice]; (repeat' split) <;> simp
@[simp] theorem changeNotice_sweep (old new : Nat) (s : State) :
    (changeNotice old new s).sweep = s.sweep := by
  simp only [changeNotice]; (repeat' split) <;> simp
@[simp] theorem changeNotice_clock (old new : Nat) (s : State) :
    (changeNotice old new s).clock = s.clock := by
  simp only [changeNotice]; (repeat' split) <;> simp
@[simp] theorem changeNotice_retire (old new : Nat) (s : State) :
    (changeNotice old new s).retire = s.retire := by
  simp only [changeNotice]; (repeat' split) <;> simp
@[simp] theorem changeNotice_views (old new : Nat) (s : State) :
    (changeNotice old new s).views = s.views := by
  simp only [changeNotice]; (repeat' split) <;> simp
@[simp] theorem changeNotice_composer (old new : Nat) (s : State) :
    (changeNotice old new s).composer = s.composer := by
  simp only [changeNotice]; (repeat' split) <;> simp
@[simp] theorem changeNotice_links (old new : Nat) (s : State) :
    (changeNotice old new s).links = s.links := by
  simp only [changeNotice]; (repeat' split) <;> simp

/-! ## followSweepRange -/

@[simp] theorem followSweepRange_pending (s : State) :
    (followSweepRange s).pending = s.pending := by
  simp [followSweepRange]
@[simp] theorem followSweepRange_inReset (s : State) :
    (followSweepRange s).inReset = s.inReset := by
  simp [followSweepRange]
@[simp] theorem followSweepRange_port (s : State) :
    (followSweepRange s).port = s.port := by
  simp [followSweepRange]
@[simp] theorem followSweepRange_cmd (s : State) :
    (followSweepRange s).cmd = s.cmd := by
  simp [followSweepRange]
@[simp] theorem followSweepRange_dir (s : State) :
    (followSweepRange s).dir = s.dir := by
  simp [followSweepRange]
@[simp] theorem followSweepRange_mem (s : State) :
    (followSweepRange s).mem = s.mem := by
  simp [followSweepRange]
@[simp] theorem followSweepRange_store (s : State) :
    (followSweepRange s).store = s.store := by
  simp [followSweepRange]
@[simp] theorem followSweepRange_arb (s : State) :
    (followSweepRange s).arb = s.arb := by
  simp [followSweepRange]
@[simp] theorem followSweepRange_phrases (s : State) :
    (followSweepRange s).phrases = s.phrases := by
  simp [followSweepRange]
@[simp] theorem followSweepRange_clock (s : State) :
    (followSweepRange s).clock = s.clock := by
  simp [followSweepRange]
@[simp] theorem followSweepRange_retire (s : State) :
    (followSweepRange s).retire = s.retire := by
  simp [followSweepRange]
@[simp] theorem followSweepRange_views (s : State) :
    (followSweepRange s).views = s.views := by
  simp [followSweepRange]
@[simp] theorem followSweepRange_composer (s : State) :
    (followSweepRange s).composer = s.composer := by
  simp [followSweepRange]
@[simp] theorem followSweepRange_links (s : State) :
    (followSweepRange s).links = s.links := by
  simp [followSweepRange]
@[simp] theorem followSweepRange_events (s : State) :
    (followSweepRange s).events = s.events := by
  simp [followSweepRange]

/-! ## setParams -/

@[simp] theorem setParams_pending (p : Params) (s : State) :
    (s.setParams p).pending = s.pending := by
  simp [State.setParams]
@[simp] theorem setParams_inReset (p : Params) (s : State) :
    (s.setParams p).inReset = s.inReset := by
  simp [State.setParams]
@[simp] theorem setParams_cmd (p : Params) (s : State) :
    (s.setParams p).cmd = s.cmd := by
  simp [State.setParams]
@[simp] theorem setParams_dir (p : Params) (s : State) :
    (s.setParams p).dir = s.dir := by
  simp [State.setParams]
@[simp] theorem setParams_mem (p : Params) (s : State) :
    (s.setParams p).mem = s.mem := by
  simp [State.setParams]
@[simp] theorem setParams_store (p : Params) (s : State) :
    (s.setParams p).store = s.store := by
  simp [State.setParams]
@[simp] theorem setParams_arb (p : Params) (s : State) :
    (s.setParams p).arb = s.arb := by
  simp [State.setParams]
@[simp] theorem setParams_sweep (p : Params) (s : State) :
    (s.setParams p).sweep = s.sweep := by
  simp [State.setParams]
@[simp] theorem setParams_phrases (p : Params) (s : State) :
    (s.setParams p).phrases = s.phrases := by
  simp [State.setParams]
@[simp] theorem setParams_clock (p : Params) (s : State) :
    (s.setParams p).clock = s.clock := by
  simp [State.setParams]
@[simp] theorem setParams_retire (p : Params) (s : State) :
    (s.setParams p).retire = s.retire := by
  simp [State.setParams]
@[simp] theorem setParams_views (p : Params) (s : State) :
    (s.setParams p).views = s.views := by
  simp [State.setParams]
@[simp] theorem setParams_composer (p : Params) (s : State) :
    (s.setParams p).composer = s.composer := by
  simp [State.setParams]
@[simp] theorem setParams_links (p : Params) (s : State) :
    (s.setParams p).links = s.links := by
  simp [State.setParams]
@[simp] theorem setParams_events (p : Params) (s : State) :
    (s.setParams p).events = s.events := by
  simp [State.setParams]

/-! ## followSweepEnable -/

@[simp] theorem followSweepEnable_pending (old : Nat) (s : State) :
    (followSweepEnable old s).pending = s.pending := by
  unfold followSweepEnable; split_ifs <;> simp
@[simp] theorem followSweepEnable_inReset (old : Nat) (s : State) :
    (followSweepEnable old s).inReset = s.inReset := by
  unfold followSweepEnable; split_ifs <;> simp
@[simp] theorem followSweepEnable_port (old : Nat) (s : State) :
    (followSweepEnable old s).port = s.port := by
  unfold followSweepEnable; split_ifs <;> simp
@[simp] theorem followSweepEnable_cmd (old : Nat) (s : State) :
    (followSweepEnable old s).cmd = s.cmd := by
  unfold followSweepEnable; split_ifs <;> simp
@[simp] theorem followSweepEnable_dir (old : Nat) (s : State) :
    (followSweepEnable old s).dir = s.dir := by
  unfold followSweepEnable; split_ifs <;> simp
@[simp] theorem followSweepEnable_mem (old : Nat) (s : State) :
    (followSweepEnable old s).mem = s.mem := by
  unfold followSweepEnable; split_ifs <;> simp
@[simp] theorem followSweepEnable_store (old : Nat) (s : State) :
    (followSweepEnable old s).store = s.store := by
  unfold followSweepEnable; split_ifs <;> simp
@[simp] theorem followSweepEnable_phrases (old : Nat) (s : State) :
    (followSweepEnable old s).phrases = s.phrases := by
  unfold followSweepEnable; split_ifs <;> simp
@[simp] theorem followSweepEnable_clock (old : Nat) (s : State) :
    (followSweepEnable old s).clock = s.clock := by
  unfold followSweepEnable; split_ifs <;> simp
@[simp] theorem followSweepEnable_retire (old : Nat) (s : State) :
    (followSweepEnable old s).retire = s.retire := by
  unfold followSweepEnable; split_ifs <;> simp
@[simp] theorem followSweepEnable_views (old : Nat) (s : State) :
    (followSweepEnable old s).views = s.views := by
  unfold followSweepEnable; split_ifs <;> simp
@[simp] theorem followSweepEnable_composer (old : Nat) (s : State) :
    (followSweepEnable old s).composer = s.composer := by
  unfold followSweepEnable; split_ifs <;> simp
@[simp] theorem followSweepEnable_links (old : Nat) (s : State) :
    (followSweepEnable old s).links = s.links := by
  unfold followSweepEnable; split_ifs <;> simp
@[simp] theorem followSweepEnable_events (old : Nat) (s : State) :
    (followSweepEnable old s).events = s.events := by
  unfold followSweepEnable; split_ifs <;> simp

/-! ## followParameter -/

@[simp] theorem followParameter_pending (n old new : Nat) (s : State) :
    (followParameter n old new s).pending = s.pending := by
  unfold followParameter; split <;> simp
@[simp] theorem followParameter_inReset (n old new : Nat) (s : State) :
    (followParameter n old new s).inReset = s.inReset := by
  unfold followParameter; split <;> simp
@[simp] theorem followParameter_cmd (n old new : Nat) (s : State) :
    (followParameter n old new s).cmd = s.cmd := by
  unfold followParameter; split <;> simp
@[simp] theorem followParameter_dir (n old new : Nat) (s : State) :
    (followParameter n old new s).dir = s.dir := by
  unfold followParameter; split <;> simp
@[simp] theorem followParameter_mem (n old new : Nat) (s : State) :
    (followParameter n old new s).mem = s.mem := by
  unfold followParameter; split <;> simp
@[simp] theorem followParameter_store (n old new : Nat) (s : State) :
    (followParameter n old new s).store = s.store := by
  unfold followParameter; split <;> simp
@[simp] theorem followParameter_clock (n old new : Nat) (s : State) :
    (followParameter n old new s).clock = s.clock := by
  unfold followParameter; split <;> simp
@[simp] theorem followParameter_retire (n old new : Nat) (s : State) :
    (followParameter n old new s).retire = s.retire := by
  unfold followParameter; split <;> simp
@[simp] theorem followParameter_views (n old new : Nat) (s : State) :
    (followParameter n old new s).views = s.views := by
  unfold followParameter; split <;> simp
@[simp] theorem followParameter_composer (n old new : Nat) (s : State) :
    (followParameter n old new s).composer = s.composer := by
  unfold followParameter; split <;> simp
@[simp] theorem followParameter_links (n old new : Nat) (s : State) :
    (followParameter n old new s).links = s.links := by
  unfold followParameter; split <;> simp

/-! ## holdNewDay -/

@[simp] theorem holdNewDay_pending (d : NewDay) (s : State) :
    (holdNewDay d s).pending = s.pending := by
  simp [holdNewDay]
@[simp] theorem holdNewDay_inReset (d : NewDay) (s : State) :
    (holdNewDay d s).inReset = s.inReset := by
  simp [holdNewDay]
@[simp] theorem holdNewDay_port (d : NewDay) (s : State) :
    (holdNewDay d s).port = s.port := by
  simp [holdNewDay]
@[simp] theorem holdNewDay_dir (d : NewDay) (s : State) :
    (holdNewDay d s).dir = s.dir := by
  simp [holdNewDay]
@[simp] theorem holdNewDay_mem (d : NewDay) (s : State) :
    (holdNewDay d s).mem = s.mem := by
  simp [holdNewDay]
@[simp] theorem holdNewDay_store (d : NewDay) (s : State) :
    (holdNewDay d s).store = s.store := by
  simp [holdNewDay]
@[simp] theorem holdNewDay_arb (d : NewDay) (s : State) :
    (holdNewDay d s).arb = s.arb := by
  simp [holdNewDay]
@[simp] theorem holdNewDay_sweep (d : NewDay) (s : State) :
    (holdNewDay d s).sweep = s.sweep := by
  simp [holdNewDay]
@[simp] theorem holdNewDay_phrases (d : NewDay) (s : State) :
    (holdNewDay d s).phrases = s.phrases := by
  simp [holdNewDay]
@[simp] theorem holdNewDay_clock (d : NewDay) (s : State) :
    (holdNewDay d s).clock = s.clock := by
  simp [holdNewDay]
@[simp] theorem holdNewDay_retire (d : NewDay) (s : State) :
    (holdNewDay d s).retire = s.retire := by
  simp [holdNewDay]
@[simp] theorem holdNewDay_views (d : NewDay) (s : State) :
    (holdNewDay d s).views = s.views := by
  simp [holdNewDay]
@[simp] theorem holdNewDay_composer (d : NewDay) (s : State) :
    (holdNewDay d s).composer = s.composer := by
  simp [holdNewDay]
@[simp] theorem holdNewDay_links (d : NewDay) (s : State) :
    (holdNewDay d s).links = s.links := by
  simp [holdNewDay]
@[simp] theorem holdNewDay_events (d : NewDay) (s : State) :
    (holdNewDay d s).events = s.events := by
  simp [holdNewDay]

/-! ## sweepMoved -/

@[simp] theorem sweepMoved_pending (n : Nat) (s : State) :
    (sweepMoved n s).pending = s.pending := by
  simp [sweepMoved]
@[simp] theorem sweepMoved_inReset (n : Nat) (s : State) :
    (sweepMoved n s).inReset = s.inReset := by
  simp [sweepMoved]
@[simp] theorem sweepMoved_port (n : Nat) (s : State) :
    (sweepMoved n s).port = s.port := by
  simp [sweepMoved]
@[simp] theorem sweepMoved_cmd (n : Nat) (s : State) :
    (sweepMoved n s).cmd = s.cmd := by
  simp [sweepMoved]
@[simp] theorem sweepMoved_dir (n : Nat) (s : State) :
    (sweepMoved n s).dir = s.dir := by
  simp [sweepMoved]
@[simp] theorem sweepMoved_mem (n : Nat) (s : State) :
    (sweepMoved n s).mem = s.mem := by
  simp [sweepMoved]
@[simp] theorem sweepMoved_store (n : Nat) (s : State) :
    (sweepMoved n s).store = s.store := by
  simp [sweepMoved]
@[simp] theorem sweepMoved_arb (n : Nat) (s : State) :
    (sweepMoved n s).arb = s.arb := by
  simp [sweepMoved]
@[simp] theorem sweepMoved_phrases (n : Nat) (s : State) :
    (sweepMoved n s).phrases = s.phrases := by
  simp [sweepMoved]
@[simp] theorem sweepMoved_clock (n : Nat) (s : State) :
    (sweepMoved n s).clock = s.clock := by
  simp [sweepMoved]
@[simp] theorem sweepMoved_retire (n : Nat) (s : State) :
    (sweepMoved n s).retire = s.retire := by
  simp [sweepMoved]
@[simp] theorem sweepMoved_views (n : Nat) (s : State) :
    (sweepMoved n s).views = s.views := by
  simp [sweepMoved]
@[simp] theorem sweepMoved_composer (n : Nat) (s : State) :
    (sweepMoved n s).composer = s.composer := by
  simp [sweepMoved]
@[simp] theorem sweepMoved_links (n : Nat) (s : State) :
    (sweepMoved n s).links = s.links := by
  simp [sweepMoved]
@[simp] theorem sweepMoved_events (n : Nat) (s : State) :
    (sweepMoved n s).events = s.events := by
  simp [sweepMoved]

/-! ## enterClearing -/

@[simp] theorem enterClearing_pending (s : State) :
    (enterClearing s).pending = s.pending := by
  simp [enterClearing]
@[simp] theorem enterClearing_inReset (s : State) :
    (enterClearing s).inReset = s.inReset := by
  simp [enterClearing]
@[simp] theorem enterClearing_port (s : State) :
    (enterClearing s).port = s.port := by
  simp [enterClearing]
@[simp] theorem enterClearing_cmd (s : State) :
    (enterClearing s).cmd = s.cmd := by
  simp [enterClearing]
@[simp] theorem enterClearing_mem (s : State) :
    (enterClearing s).mem = s.mem := by
  simp [enterClearing]
@[simp] theorem enterClearing_clock (s : State) :
    (enterClearing s).clock = s.clock := by
  simp [enterClearing]
@[simp] theorem enterClearing_retire (s : State) :
    (enterClearing s).retire = s.retire := by
  simp [enterClearing]
@[simp] theorem enterClearing_views (s : State) :
    (enterClearing s).views = s.views := by
  simp [enterClearing]
@[simp] theorem enterClearing_composer (s : State) :
    (enterClearing s).composer = s.composer := by
  simp [enterClearing]
@[simp] theorem enterClearing_links (s : State) :
    (enterClearing s).links = s.links := by
  simp [enterClearing]

/-! ## enterServing -/

@[simp] theorem enterServing_pending (v : StoreState) (b : Bank) (s : State) :
    (enterServing v b s).pending = s.pending := by
  simp [enterServing]
@[simp] theorem enterServing_inReset (v : StoreState) (b : Bank) (s : State) :
    (enterServing v b s).inReset = s.inReset := by
  simp [enterServing]
@[simp] theorem enterServing_port (v : StoreState) (b : Bank) (s : State) :
    (enterServing v b s).port = s.port := by
  simp [enterServing]
@[simp] theorem enterServing_cmd (v : StoreState) (b : Bank) (s : State) :
    (enterServing v b s).cmd = s.cmd := by
  simp [enterServing]
@[simp] theorem enterServing_mem (v : StoreState) (b : Bank) (s : State) :
    (enterServing v b s).mem = s.mem := by
  simp [enterServing]
@[simp] theorem enterServing_arb (v : StoreState) (b : Bank) (s : State) :
    (enterServing v b s).arb = s.arb := by
  simp [enterServing]
@[simp] theorem enterServing_phrases (v : StoreState) (b : Bank) (s : State) :
    (enterServing v b s).phrases = s.phrases := by
  simp [enterServing]
@[simp] theorem enterServing_clock (v : StoreState) (b : Bank) (s : State) :
    (enterServing v b s).clock = s.clock := by
  simp [enterServing]
@[simp] theorem enterServing_retire (v : StoreState) (b : Bank) (s : State) :
    (enterServing v b s).retire = s.retire := by
  simp [enterServing]
@[simp] theorem enterServing_views (v : StoreState) (b : Bank) (s : State) :
    (enterServing v b s).views = s.views := by
  simp [enterServing]
@[simp] theorem enterServing_composer (v : StoreState) (b : Bank) (s : State) :
    (enterServing v b s).composer = s.composer := by
  simp [enterServing]
@[simp] theorem enterServing_links (v : StoreState) (b : Bank) (s : State) :
    (enterServing v b s).links = s.links := by
  simp [enterServing]
@[simp] theorem enterServing_events (v : StoreState) (b : Bank) (s : State) :
    (enterServing v b s).events = s.events := by
  simp [enterServing]

/-! ## enterRebuilding -/

@[simp] theorem enterRebuilding_pending (o : StoreState) (s : State) :
    (enterRebuilding o s).pending = s.pending := by
  simp [enterRebuilding]
@[simp] theorem enterRebuilding_inReset (o : StoreState) (s : State) :
    (enterRebuilding o s).inReset = s.inReset := by
  simp [enterRebuilding]
@[simp] theorem enterRebuilding_port (o : StoreState) (s : State) :
    (enterRebuilding o s).port = s.port := by
  simp [enterRebuilding]
@[simp] theorem enterRebuilding_cmd (o : StoreState) (s : State) :
    (enterRebuilding o s).cmd = s.cmd := by
  simp [enterRebuilding]
@[simp] theorem enterRebuilding_dir (o : StoreState) (s : State) :
    (enterRebuilding o s).dir = s.dir := by
  simp [enterRebuilding]
@[simp] theorem enterRebuilding_mem (o : StoreState) (s : State) :
    (enterRebuilding o s).mem = s.mem := by
  simp [enterRebuilding]
@[simp] theorem enterRebuilding_phrases (o : StoreState) (s : State) :
    (enterRebuilding o s).phrases = s.phrases := by
  simp [enterRebuilding]
@[simp] theorem enterRebuilding_clock (o : StoreState) (s : State) :
    (enterRebuilding o s).clock = s.clock := by
  simp [enterRebuilding]
@[simp] theorem enterRebuilding_retire (o : StoreState) (s : State) :
    (enterRebuilding o s).retire = s.retire := by
  simp [enterRebuilding]
@[simp] theorem enterRebuilding_views (o : StoreState) (s : State) :
    (enterRebuilding o s).views = s.views := by
  simp [enterRebuilding]
@[simp] theorem enterRebuilding_composer (o : StoreState) (s : State) :
    (enterRebuilding o s).composer = s.composer := by
  simp [enterRebuilding]
@[simp] theorem enterRebuilding_links (o : StoreState) (s : State) :
    (enterRebuilding o s).links = s.links := by
  simp [enterRebuilding]
@[simp] theorem enterRebuilding_events (o : StoreState) (s : State) :
    (enterRebuilding o s).events = s.events := by
  simp [enterRebuilding]

/-! ## completeRebuild -/

@[simp] theorem completeRebuild_pending (s : State) :
    (completeRebuild s).pending = s.pending := by
  simp [completeRebuild]
@[simp] theorem completeRebuild_inReset (s : State) :
    (completeRebuild s).inReset = s.inReset := by
  simp [completeRebuild]
@[simp] theorem completeRebuild_port (s : State) :
    (completeRebuild s).port = s.port := by
  simp [completeRebuild]
@[simp] theorem completeRebuild_cmd (s : State) :
    (completeRebuild s).cmd = s.cmd := by
  simp [completeRebuild]
@[simp] theorem completeRebuild_dir (s : State) :
    (completeRebuild s).dir = s.dir := by
  simp [completeRebuild]
@[simp] theorem completeRebuild_mem (s : State) :
    (completeRebuild s).mem = s.mem := by
  simp [completeRebuild]
@[simp] theorem completeRebuild_arb (s : State) :
    (completeRebuild s).arb = s.arb := by
  simp [completeRebuild]
@[simp] theorem completeRebuild_phrases (s : State) :
    (completeRebuild s).phrases = s.phrases := by
  simp [completeRebuild]
@[simp] theorem completeRebuild_clock (s : State) :
    (completeRebuild s).clock = s.clock := by
  simp [completeRebuild]
@[simp] theorem completeRebuild_retire (s : State) :
    (completeRebuild s).retire = s.retire := by
  simp [completeRebuild]
@[simp] theorem completeRebuild_views (s : State) :
    (completeRebuild s).views = s.views := by
  simp [completeRebuild]
@[simp] theorem completeRebuild_composer (s : State) :
    (completeRebuild s).composer = s.composer := by
  simp [completeRebuild]
@[simp] theorem completeRebuild_links (s : State) :
    (completeRebuild s).links = s.links := by
  simp [completeRebuild]

end Sys2Proof.Machine
end

