-- ==== Sys2Proof/Laws/Canonical.lean ====
section
/-!
SUPPORT. Every operation on Record Memory keeps its canonical form.
-/

namespace Sys2Proof.Machine

theorem writeCopy_wf {s : State} (b : Bank) (n : Nat) (v : Contents) (h : s.mem.wf = true) :
    (writeCopy b n v s).mem.wf = true := RecordMemory.wf_setCopy h _ _ _

theorem disturbCopy_wf {s : State} (b : Bank) (n : Nat) (k : DisturbanceKind) (h : s.mem.wf = true) :
    (disturbCopy b n k s).mem.wf = true := by
  unfold disturbCopy
  split
  · exact RecordMemory.wf_setCopy h _ _ _
  · exact h

theorem applyDeferred_wf (l : List (Bank × Nat × DisturbanceKind)) {s : State} (h : s.mem.wf = true) :
    (applyDeferred l s).mem.wf = true := by
  unfold applyDeferred
  induction l generalizing s with
  | nil => exact h
  | cons d l ih => exact ih (disturbCopy_wf _ _ _ h)

theorem endGrant_wf {s : State} (h : s.mem.wf = true) : (endGrant s).mem.wf = true := by
  simp only [endGrant]
  split <;> simpa using applyDeferred_wf _ h

theorem completeGrant_wf {s : State} (rc : ResultCode) (out : Option (List Byte)) (q : Bool) (h : s.mem.wf = true) :
    (completeGrant rc out q s).mem.wf = true := endGrant_wf (by simpa using h)

theorem refuseGrant_wf {s : State} (rc : ResultCode) (h : s.mem.wf = true) : (refuseGrant rc s).mem.wf = true :=
  endGrant_wf (by simpa using h)

theorem correctCopy_wf {s : State} (b : Bank) (n key : Nat) (op : Operation) (h : s.mem.wf = true) :
    (correctCopy b n key op s).mem.wf = true := by
  simpa [correctCopy] using writeCopy_wf b n _ h

theorem withdraw_wf {s : State} (op : Operation) (n key : Nat) (h : s.mem.wf = true) :
    (withdraw op n key s).after.mem.wf = true := by
  unfold withdraw
  split <;> simpa using h

theorem readPrimary_wf {s : State} (op : Operation) (n key : Nat) (h : s.mem.wf = true) :
    (readPrimary op n key s).after.mem.wf = true := by
  unfold readPrimary
  simp only
  split
  · exact h
  · split
    · simpa using writeCopy_wf _ _ _ h
    · exact correctCopy_wf _ _ _ _ h
  · exact withdraw_wf _ _ _ h

theorem repair_wf {s : State} (op : Operation) (n key : Nat) (h : s.mem.wf = true) :
    (repair op n key s).after.mem.wf = true := by
  unfold repair
  simp only
  split <;> simpa using writeCopy_wf _ _ _ (writeCopy_wf _ _ _ h)

theorem readMirrored_wf {s : State} (op : Operation) (n key : Nat) (h : s.mem.wf = true) :
    (readMirrored op n key s).after.mem.wf = true := by
  unfold readMirrored
  simp only
  split
  · exact h
  · split
    · simpa using writeCopy_wf _ _ _ h
    · exact correctCopy_wf _ _ _ _ h
  · split
    · exact withdraw_wf _ _ _ h
    · exact repair_wf _ _ _ h

theorem readBody_wf {s : State} (op : Operation) (n key : Nat) (h : s.mem.wf = true) :
    (readBody op n key s).after.mem.wf = true := by
  unfold readBody
  split
  · exact readPrimary_wf _ _ _ h
  · exact readPrimary_wf _ _ _ h
  · exact readPrimary_wf _ _ _ h
  · exact readMirrored_wf _ _ _ h
  all_goals exact h

theorem writePrimary_wf {s : State} (op : Operation) (n : Nat) (v : Contents) (h : s.mem.wf = true) :
    (writePrimary op n v s).after.mem.wf = true := by
  unfold writePrimary
  simp only
  split <;> simpa using writeCopy_wf _ _ _ h

theorem writeMirrored_wf {s : State} (op : Operation) (n : Nat) (v : Contents) (h : s.mem.wf = true) :
    (writeMirrored op n v s).after.mem.wf = true := by
  unfold writeMirrored
  simp only
  split <;> simpa using writeCopy_wf _ _ _ (writeCopy_wf _ _ _ h)

theorem writeBelowCursor_wf {s : State} (op : Operation) (n : Nat) (v : Contents) (h : s.mem.wf = true) :
    (writeBelowCursor op n v s).after.mem.wf = true := by
  unfold writeBelowCursor
  simp only
  split <;> simpa using writeCopy_wf _ _ _ (writeCopy_wf _ _ _ h)

theorem writeBody_wf {s : State} (op : Operation) (n : Nat) (r : RecordBody) (h : s.mem.wf = true) :
    (writeBody op n r s).after.mem.wf = true := by
  unfold writeBody
  split
  · exact writePrimary_wf _ _ _ h
  · exact writePrimary_wf _ _ _ h
  · exact writeMirrored_wf _ _ _ h
  · split
    · exact writeBelowCursor_wf _ _ _ h
    · exact writePrimary_wf _ _ _ h
  all_goals exact h

end Sys2Proof.Machine
end

