-- ==== Sys2Proof/Laws/Captures.lean ====
section
/-!
SUPPORT. Releases and removals leave both captures as they are: PHRASE_FREED is of the info class (R162, R167).
-/

namespace Sys2Proof.Machine

/-- PHRASE_FREED is offered to no capture. -/
theorem raiseEvent_phraseFreed (a b : Option Nat) (c : Option Bank) (d : Option (Fin 4)) (op : Operation) (s : State) :
    (raiseEvent .phraseFreed a b c d op s).events = { s.events with sticky := s.events.sticky ||| 0x800 } := rfl

/-- What an event leaves in the first-fatal capture (R167). -/
theorem raiseEvent_firstFatal (k : EventKind) (a b : Option Nat) (c : Option Bank) (d : Option (Fin 4)) (op : Operation)
    (s : State) : (raiseEvent k a b c d op s).events.firstFatal =
      if k.isFatal then offered s.events.firstFatal
        { kind := k, minute := s.captureMinute, slot := a, key := b, bank := c, link := d, operation := op }
      else s.events.firstFatal := rfl

/-- What an event leaves in the first-error capture (R167). -/
theorem raiseEvent_firstError (k : EventKind) (a b : Option Nat) (c : Option Bank) (d : Option (Fin 4)) (op : Operation)
    (s : State) : (raiseEvent k a b c d op s).events.firstError =
      if k.isError then offered s.events.firstError
        { kind := k, minute := s.captureMinute, slot := a, key := b, bank := c, link := d, operation := op }
      else s.events.firstError := rfl

@[simp] theorem releasePhrase_firstFatal (n : Nat) (s : State) : (releasePhrase n s).events.firstFatal = s.events.firstFatal := by
  unfold releasePhrase
  (repeat' split) <;> simp [raiseEvent_phraseFreed]
@[simp] theorem releaseVia_firstFatal (v : Option Nat) (s : State) : (releaseVia v s).events.firstFatal = s.events.firstFatal := by
  cases v <;> simp [releaseVia]
@[simp] theorem releaseEntry_firstFatal (e : Entry) (s : State) : (releaseEntry e s).events.firstFatal = s.events.firstFatal := by
  simp [releaseEntry]
@[simp] theorem moveReferences_firstFatal (e e' : Entry) (s : State) : (moveReferences e e' s).events.firstFatal = s.events.firstFatal := by
  simp only [moveReferences]
  split_ifs <;> simp
@[simp] theorem removeEntry_firstFatal (e : Entry) (s : State) : (removeEntry e s).events.firstFatal = s.events.firstFatal := by
  simp [removeEntry, State.setOrder]
theorem releaseAll_firstFatal (l : List Entry) (s : State) :
    (l.foldl (fun t e => releaseEntry e t) s).events.firstFatal = s.events.firstFatal := by
  induction l generalizing s with
  | nil => rfl
  | cons e l ih => simp [ih]
@[simp] theorem emptyDirectory_firstFatal (s : State) : (emptyDirectory s).events.firstFatal = s.events.firstFatal := by
  simp [emptyDirectory, releaseAll_firstFatal]
@[simp] theorem changeNotice_firstFatal (old new : Nat) (s : State) : (changeNotice old new s).events.firstFatal = s.events.firstFatal := by
  simp only [changeNotice]
  (repeat' split) <;> simp

@[simp] theorem releasePhrase_firstError (n : Nat) (s : State) : (releasePhrase n s).events.firstError = s.events.firstError := by
  unfold releasePhrase
  (repeat' split) <;> simp [raiseEvent_phraseFreed]
@[simp] theorem releaseVia_firstError (v : Option Nat) (s : State) : (releaseVia v s).events.firstError = s.events.firstError := by
  cases v <;> simp [releaseVia]
@[simp] theorem releaseEntry_firstError (e : Entry) (s : State) : (releaseEntry e s).events.firstError = s.events.firstError := by
  simp [releaseEntry]
@[simp] theorem moveReferences_firstError (e e' : Entry) (s : State) : (moveReferences e e' s).events.firstError = s.events.firstError := by
  simp only [moveReferences]
  split_ifs <;> simp
@[simp] theorem removeEntry_firstError (e : Entry) (s : State) : (removeEntry e s).events.firstError = s.events.firstError := by
  simp [removeEntry, State.setOrder]
theorem releaseAll_firstError (l : List Entry) (s : State) :
    (l.foldl (fun t e => releaseEntry e t) s).events.firstError = s.events.firstError := by
  induction l generalizing s with
  | nil => rfl
  | cons e l ih => simp [ih]
@[simp] theorem emptyDirectory_firstError (s : State) : (emptyDirectory s).events.firstError = s.events.firstError := by
  simp [emptyDirectory, releaseAll_firstError]
@[simp] theorem changeNotice_firstError (old new : Nat) (s : State) : (changeNotice old new s).events.firstError = s.events.firstError := by
  simp only [changeNotice]
  (repeat' split) <;> simp

end Sys2Proof.Machine
end

