-- ==== Sys2Proof/Laws/Fields.lean ====
section
/-!
SUPPORT. The range tests as the propositions they decide (R23), the phrase tests when they are passed (R24), and the
Directory's reads while it is open (R14).
-/

namespace Sys2Proof.Machine

theorem keyOk_iff (n : Nat) : keyOk n = true ↔ 1 ≤ n := by
  simp only [keyOk, bne_iff_ne]
  omega
theorem timeOk_iff (n : Nat) : timeOk n = true ↔ n ≤ 2879 := decide_eq_true_iff
theorem platformOk_iff (n : Nat) : platformOk n = true ↔ n ≤ 63 := decide_eq_true_iff
theorem viaOk_iff (n : Nat) : viaOk n = true ↔ n ≤ 63 := decide_eq_true_iff
theorem destinationOk_iff (n : Nat) : destinationOk n = true ↔ 1 ≤ n ∧ n ≤ 63 := by
  unfold destinationOk
  rw [Bool.and_eq_true, decide_eq_true_iff]
  exact and_congr Iff.rfl decide_eq_true_iff
theorem optTimeOk_iff (m : Option Nat) : optTimeOk m = true ↔ MinuteInRange m := by
  cases m with
  | none => simp [optTimeOk, MinuteInRange]
  | some n => simpa [optTimeOk, MinuteInRange] using timeOk_iff n
theorem attributesOk_iff (n : Nat) (l : List Nat) : attributesOk n l = true ↔ AttributesInRange n l := by
  simp [attributesOk, AttributesInRange, and_assoc]

/-- The range tests of ADD (R23, R27). -/
theorem addInRange_iff (s : State) : s.addInRange = true ↔ AddFieldsInRange s := by
  simp only [State.addInRange, AddFieldsInRange, Bool.and_eq_true, keyOk_iff, timeOk_iff, optTimeOk_iff, platformOk_iff,
    destinationOk_iff, viaOk_iff, attributesOk_iff, and_assoc]

theorem not_or_iff (b : Bool) (p : Prop) : (b = false ∨ p) ↔ (b = true → p) := by cases b <;> simp

/-- The range tests of AMEND (R23, R31). -/
theorem amendInRange_iff (s : State) : s.amendInRange = true ↔ AmendFieldsInRange s := by
  simp only [State.amendInRange, AmendFieldsInRange, Bool.and_eq_true, Bool.or_eq_true, Bool.not_eq_true', keyOk_iff,
    timeOk_iff, optTimeOk_iff, platformOk_iff, destinationOk_iff, viaOk_iff, attributesOk_iff, and_assoc, not_or_iff]

/-- The phrase tests are passed when the phrases are DEFINED (R24). -/
theorem phraseTests_none (s : State) (d v : Option Nat) (hd : OptPhraseDefined s d) (hv : OptPhraseDefined s v) :
    phraseTests d v s = none := by
  have one : ∀ o : Option Nat, OptPhraseDefined s o → o.bind (fun n => phraseTest n s) = none := by
    intro o ho
    cases o with
    | none => rfl
    | some n =>
      have h : (s.phrase n).state = .defined := ho n rfl
      simp [phraseTest, h]
  simp [phraseTests, one d hd, one v hv]

/-- An open Directory answers from its departure order (R14). -/
theorem entries_open {s : State} (h : s.dir.isOpen = true) : s.entries = s.dir.order := by simp [State.entries, h]

end Sys2Proof.Machine
end

