-- ==== Sys2Proof/Laws/Line.lean ====
section
/-!
SUPPORT. The levels of a frame on the FRAME line: ten bit times a byte, byte after byte (R113).
-/

namespace Sys2Proof.Machine

theorem byteLevels_length (b : Byte) : (byteLevels b).length = 10 := rfl

/-- The levels of a frame are those of its first byte and then those of the rest. -/
theorem frameLevels_cons (b : Byte) (rest : List Byte) : frameLevels (b :: rest) = byteLevels b ++ frameLevels rest := rfl

/-- A frame takes ten bit times a byte. -/
theorem frameLevels_length (l : List Byte) : (frameLevels l).length = 10 * l.length := by
  induction l with
  | nil => rfl
  | cons b rest ih =>
    rw [frameLevels_cons, List.length_append, ih, byteLevels_length, List.length_cons]
    omega

/-- Bit time `k` of byte `n` of a frame is bit time `k` of that byte. -/
theorem frameLevels_byte {b : Byte} (l : List Byte) {n k : Nat} (h : l[n]? = some b) (hk : k < 10) :
    (frameLevels l)[10 * n + k]? = (byteLevels b)[k]? := by
  induction l generalizing n with
  | nil => simp at h
  | cons c rest ih =>
    rw [frameLevels_cons]
    cases n with
    | zero =>
      simp only [List.getElem?_cons_zero, Option.some.injEq] at h
      subst h
      rw [List.getElem?_append_left (by rw [byteLevels_length]; omega)]
      simp
    | succ n =>
      rw [List.getElem?_append_right (by rw [byteLevels_length]; omega), byteLevels_length,
        ← ih (by simpa using h)]
      congr 1
      omega

end Sys2Proof.Machine
end

