-- ==== Sys2Proof/Laws/Losses.lean ====
section
/-!
SUPPORT. What a bank loss and a store failure leave, and what a write to both copies of a slot leaves in each.
-/

namespace Sys2Proof.Machine

/-! ## Releases depend on the phrases alone -/

theorem releasePhrase_phrases_congr {s t : State} (n : Nat) (h : t.phrases = s.phrases) :
    (releasePhrase n t).phrases = (releasePhrase n s).phrases := by
  have hp : t.phrase n = s.phrase n := by simp [State.phrase, h]
  have put : ∀ p, (t.setPhrase n p).phrases = (s.setPhrase n p).phrases := by
    intro p
    unfold State.setPhrase
    split <;> simp [h]
  unfold releasePhrase
  rw [hp]
  split
  · exact h
  · exact put _
  · split
    · exact put _
    · exact put _
theorem releaseVia_phrases_congr {s t : State} (v : Option Nat) (h : t.phrases = s.phrases) :
    (releaseVia v t).phrases = (releaseVia v s).phrases := by
  cases v
  · exact h
  · exact releasePhrase_phrases_congr _ h
theorem releaseEntry_phrases_congr {s t : State} (e : Entry) (h : t.phrases = s.phrases) :
    (releaseEntry e t).phrases = (releaseEntry e s).phrases :=
  releaseVia_phrases_congr _ (releasePhrase_phrases_congr _ h)
theorem releaseAll_phrases_congr (l : List Entry) {s t : State} (h : t.phrases = s.phrases) :
    (l.foldl (fun u e => releaseEntry e u) t).phrases = (l.foldl (fun u e => releaseEntry e u) s).phrases := by
  induction l generalizing s t with
  | nil => exact h
  | cons e l ih => exact ih (releaseEntry_phrases_congr e h)

/-! ## Losses -/

/-- Both names of the key of the live record in a slot are one. -/
theorem liveKeyAt_eq_keyIn (slot : Nat) (s : State) : liveKeyAt slot s = keyIn slot s := rfl

theorem offered_eq_or (old : Option Capture) (c : Capture) : offered old c = old.or (some c) := by
  cases old <;> rfl

/-- A bank loss after a write (R127): DEGRADED with the other bank primary, BANK_LOST offered, nothing else changed. -/
theorem loseBank_lost (lost : Bank) (slot : Nat) (key : Option Nat) (op : Operation) (m : RecordMemory) (s : State) :
    let t := loseBank lost slot key op (s.setMem m)
    t.mem = m ∧ BankLostFrom s t slot key lost op ∧
      t = { s with mem := t.mem, store := t.store, events := t.events } := by
  have h : (if s.store.primary = lost then otherBank lost else s.store.primary) = otherBank lost := by
    cases hp : s.store.primary <;> cases lost <;> rfl
  refine ⟨rfl, ⟨?_, ?_⟩, rfl⟩
  · rw [← h]; rfl
  · rw [← offered_eq_or]; rfl

/-- A store failure after a write (R128): FAILED, the Directory closed and empty, STORE_FAILED offered. -/
theorem failStore_failed (bank : Option Bank) (slot : Nat) (key : Option Nat) (op : Operation) (m : RecordMemory)
    (s : State) :
    (failStore bank slot key op (s.setMem m)).mem = m ∧
      FailedFrom s (failStore bank slot key op (s.setMem m)) slot key bank op := by
  refine ⟨by simp [failStore, raiseEvent], by simp [failStore, raiseEvent],
    by simp [failStore, raiseEvent, emptyDirectory], ?_, ?_, ?_⟩
  · exact releaseAll_phrases_congr _ rfl
  · rw [failStore, raiseEvent_firstFatal, ← offered_eq_or]
    simp [EventKind.isFatal, captureAt, State.captureMinute]
  · rw [failStore, raiseEvent_firstError]
    simp [EventKind.isError]

/-! ## Writes to both copies -/

/-- A write to both copies of a slot leaves in each what a write to it alone leaves, and no other copy changes. -/
theorem copies_writeBoth (p : Bank) (n : Nat) {v : Contents} (hv : v ≠ .unknown) (s : State) :
    let t := writeCopy (otherBank p) n v (writeCopy p n v s)
    (∀ b, t.copy b n = if (s.copy b n).stuck then failedCopy (s.copy b n)
      else { contents := v, check := .good, stuck := false }) ∧ OtherCopiesKept s t [.A, .B] n := by
  intro t
  have one : ∀ b (u : State), u.copy b n = s.copy b n →
      (writeCopy b n v u).copy b n = if (s.copy b n).stuck then failedCopy (s.copy b n)
        else { contents := v, check := .good, stuck := false } := by
    intro b u hu
    split
    · rename_i h
      rw [copy_writeCopy_stuck u b n (by rw [hu]; exact h), hu]
      rfl
    · rename_i h
      exact copy_writeCopy_sound u b n hv (by rw [hu]; simpa using h)
  have hne := otherBank_ne p
  have first : t.copy p n = (writeCopy p n v s).copy p n := copy_writeCopy_other _ _ (by simp [hne.symm])
  have second : (writeCopy p n v s).copy (otherBank p) n = s.copy (otherBank p) n :=
    copy_writeCopy_other _ _ (by simp [hne])
  refine ⟨fun b => ?_, fun b m hm => ?_⟩
  · by_cases hb : b = p
    · subst hb
      rw [first]
      exact one b s rfl
    · have hb' : b = otherBank p := by cases b <;> cases p <;> simp_all [otherBank]
      subst hb'
      exact one _ _ second
  · have hm' : m ≠ n := by
      intro h
      exact hm ⟨by cases b <;> decide, h⟩
    rw [show t.copy b m = (writeCopy p n v s).copy b m from copy_writeCopy_other _ _ (by simp [hm']),
      copy_writeCopy_other s _ (by simp [hm'])]

end Sys2Proof.Machine
end

