-- ==== Sys2Proof/Laws/PerInstr.lean ====
section
/-!
SUPPORT. The family `Rows`: what is true of every row as syntax.
-/

namespace Sys2Proof.Laws.Rows

open Sys2Proof.Machine

/-- POINTER's bytes have bit 7 set. -/
theorem pointerByte_high (bits : BitVec 7) : 0x80 ≤ (pointerByte bits).toNat := by
  have h : ∀ b : BitVec 7, 0x80#8 ≤ pointerByte b := by decide
  exact h bits

/-- A row that a command byte causes has a byte of its own kind (R155, R171): an assigned byte below 0x80, or POINTER's
from 0x80 on, or, for BAD_COMMAND, a byte below 0x80 that names no command. -/
def Statement (i : Instr) : Prop :=
  ∀ b, commandByteOf i = some b → i.wellFormed = true →
    (b.toNat < 0x80 ∧ assignedCommandBytes.contains b.toNat = true) ∨
      (0x80 ≤ b.toNat ∧ ∃ bits, i = .pointer bits) ∨
      (b.toNat < 0x80 ∧ assignedCommandBytes.contains b.toNat = false ∧ i = .badCommand b)

theorem add : Statement .add := by intro b h _; cases h; exact .inl (by decide)
theorem addGrant (x : Extent) : Statement (.addGrant x) := by intro b h; cases h
theorem amend : Statement .amend := by intro b h _; cases h; exact .inl (by decide)
theorem amendGrant (x : Extent) : Statement (.amendGrant x) := by intro b h; cases h
theorem retire (x : RetirePart) : Statement (.retire x) := by
  intro b h _
  cases x <;> cases h <;> exact .inl (by decide)
theorem fetch : Statement .fetch := by intro b h _; cases h; exact .inl (by decide)
theorem fetchRank : Statement .fetchRank := by intro b h _; cases h; exact .inl (by decide)
theorem findNext : Statement .findNext := by intro b h _; cases h; exact .inl (by decide)
theorem fetchGrant (x : Extent) : Statement (.fetchGrant x) := by intro b h; cases h
theorem keepalive : Statement .keepalive := by intro b h _; cases h; exact .inl (by decide)
theorem definePhrase : Statement .definePhrase := by intro b h _; cases h; exact .inl (by decide)
theorem retirePhrase : Statement .retirePhrase := by intro b h _; cases h; exact .inl (by decide)
theorem readPhrase : Statement .readPhrase := by intro b h _; cases h; exact .inl (by decide)
theorem configureView : Statement .configureView := by intro b h _; cases h; exact .inl (by decide)
theorem startView : Statement .startView := by intro b h _; cases h; exact .inl (by decide)
theorem stopView : Statement .stopView := by intro b h _; cases h; exact .inl (by decide)
theorem shiftView : Statement .shiftView := by intro b h _; cases h; exact .inl (by decide)
theorem readView : Statement .readView := by intro b h _; cases h; exact .inl (by decide)
theorem setClock : Statement .setClock := by intro b h _; cases h; exact .inl (by decide)
theorem newDay : Statement .newDay := by intro b h _; cases h; exact .inl (by decide)
theorem newDayVisit : Statement .newDayVisit := by intro b h; cases h
theorem rebaseGrant (x : Extent) : Statement (.rebaseGrant x) := by intro b h; cases h
theorem setStoreState : Statement .setStoreState := by intro b h _; cases h; exact .inl (by decide)
theorem clear : Statement .clear := by intro b h _; cases h; exact .inl (by decide)
theorem storeStateGrant : Statement .storeStateGrant := by intro b h; cases h
theorem readState : Statement .readState := by intro b h _; cases h; exact .inl (by decide)
theorem checkTest : Statement .checkTest := by intro b h _; cases h; exact .inl (by decide)
theorem checkTestGrant : Statement .checkTestGrant := by intro b h; cases h
theorem setParameter : Statement .setParameter := by intro b h _; cases h; exact .inl (by decide)
theorem readParameter : Statement .readParameter := by intro b h _; cases h; exact .inl (by decide)
theorem readEvents : Statement .readEvents := by intro b h _; cases h; exact .inl (by decide)
theorem clearEvents : Statement .clearEvents := by intro b h _; cases h; exact .inl (by decide)
theorem setMasks : Statement .setMasks := by intro b h _; cases h; exact .inl (by decide)
theorem readCapture : Statement .readCapture := by intro b h _; cases h; exact .inl (by decide)
theorem clearCapture : Statement .clearCapture := by intro b h _; cases h; exact .inl (by decide)
theorem restart : Statement .restart := by intro b h _; cases h; exact .inl (by decide)
theorem pointer (bits : BitVec 7) : Statement (.pointer bits) := by
  intro b h _
  cases h
  exact .inr (.inl ⟨pointerByte_high bits, bits, rfl⟩)
theorem width8 : Statement .width8 := by intro b h _; cases h; exact .inl (by decide)
theorem width4 : Statement .width4 := by intro b h _; cases h; exact .inl (by decide)
theorem badCommand (byte : Byte) : Statement (.badCommand byte) := by
  intro b h hw
  cases h
  simp only [Instr.wellFormed, Bool.and_eq_true, Bool.not_eq_true', decide_eq_true_eq] at hw
  exact .inr (.inr ⟨hw.1, hw.2, rfl⟩)
theorem stagingWrite (byte : Byte) : Statement (.stagingWrite byte) := by intro b h; cases h
theorem stagingRead (x : StrobePart) : Statement (.stagingRead x) := by intro b h; cases h
theorem nibbleTimeout : Statement .nibbleTimeout := by intro b h; cases h
theorem secondTick (order : List TickHolder) : Statement (.secondTick order) := by intro b h; cases h
theorem minuteAdvance : Statement .minuteAdvance := by intro b h; cases h
theorem retirementStep : Statement .retirementStep := by intro b h; cases h
theorem stale : Statement .stale := by intro b h; cases h
theorem refreshExpiry (view : Fin 4) : Statement (.refreshExpiry view) := by intro b h; cases h
theorem compositionStart (x : Extent) : Statement (.compositionStart x) := by intro b h; cases h
theorem composerGrant (x : Extent) : Statement (.composerGrant x) := by intro b h; cases h
theorem copierStep (x : Extent) : Statement (.copierStep x) := by intro b h; cases h
theorem clearingStep : Statement .clearingStep := by intro b h; cases h
theorem sweepTimerExpiry : Statement .sweepTimerExpiry := by intro b h; cases h
theorem sweepStep (x : Extent) : Statement (.sweepStep x) := by intro b h; cases h
theorem disturbance (bank : Bank) (slot : Nat) (kind : DisturbanceKind) : Statement (.disturbance bank slot kind) := by intro b h; cases h
theorem frameEnd (link : Fin 4) : Statement (.frameEnd link) := by intro b h; cases h
theorem take (link : Fin 4) : Statement (.take link) := by intro b h; cases h
theorem linkLost (link : Fin 4) : Statement (.linkLost link) := by intro b h; cases h
theorem advanceRise (link : Fin 4) : Statement (.advanceRise link) := by intro b h; cases h
theorem advanceRelease (link : Fin 4) : Statement (.advanceRelease link) := by intro b h; cases h
theorem linkCombinationReset : Statement .linkCombinationReset := by intro b h; cases h
theorem resetN : Statement .resetN := by intro b h; cases h
theorem powerOn : Statement .powerOn := by intro b h; cases h
theorem firstNibble (sel rw : Bool) (lines : Byte) : Statement (.firstNibble sel rw lines) := by intro b h; cases h
theorem statusRead (x : StrobePart) : Statement (.statusRead x) := by intro b h; cases h
theorem resetNRelease : Statement .resetNRelease := by intro b h; cases h

end Sys2Proof.Laws.Rows
end

