-- ==== Sys2Proof/Laws/References.lean ====
section
/-!
SUPPORT. Takes and releases touch the phrases and the events alone, so they pass through a change of any other block.
-/

namespace Sys2Proof.Machine

/-! ## Past setPort -/

theorem setPhrase_setPort (n : Nat) (p : Phrase) (v : ControlPort) (s : State) :
    (s.setPort v).setPhrase n p = (s.setPhrase n p).setPort v := by
  unfold State.setPhrase; split <;> rfl
theorem takePhrase_setPort (n : Nat) (v : ControlPort) (s : State) : takePhrase n (s.setPort v) = (takePhrase n s).setPort v :=
  setPhrase_setPort _ _ _ _
theorem takeVia_setPort (o : Option Nat) (v : ControlPort) (s : State) : takeVia o (s.setPort v) = (takeVia o s).setPort v := by
  cases o
  · rfl
  · exact takePhrase_setPort _ _ _
theorem takeEntry_setPort (e : Entry) (v : ControlPort) (s : State) : takeEntry e (s.setPort v) = (takeEntry e s).setPort v := by
  unfold takeEntry
  rw [takePhrase_setPort, takeVia_setPort]
theorem releasePhrase_setPort (n : Nat) (v : ControlPort) (s : State) :
    releasePhrase n (s.setPort v) = (releasePhrase n s).setPort v := by
  unfold releasePhrase
  have h : (s.setPort v).phrase n = s.phrase n := rfl
  rw [h]
  split
  · rfl
  · exact setPhrase_setPort _ _ _ _
  · split
    · rw [setPhrase_setPort]; rfl
    · exact setPhrase_setPort _ _ _ _
theorem releaseVia_setPort (o : Option Nat) (v : ControlPort) (s : State) :
    releaseVia o (s.setPort v) = (releaseVia o s).setPort v := by
  cases o
  · rfl
  · exact releasePhrase_setPort _ _ _
theorem releaseEntry_setPort (e : Entry) (v : ControlPort) (s : State) :
    releaseEntry e (s.setPort v) = (releaseEntry e s).setPort v := by
  unfold releaseEntry
  rw [releasePhrase_setPort, releaseVia_setPort]
theorem moveReferences_setPort (a b : Entry) (v : ControlPort) (s : State) :
    moveReferences a b (s.setPort v) = (moveReferences a b s).setPort v := by
  simp only [moveReferences]
  split_ifs <;>
    simp only [takePhrase_setPort, takeVia_setPort, releasePhrase_setPort, releaseVia_setPort]

/-! ## Past setCmd -/

theorem setPhrase_setCmd (n : Nat) (p : Phrase) (v : Option InFlight) (s : State) :
    (s.setCmd v).setPhrase n p = (s.setPhrase n p).setCmd v := by
  unfold State.setPhrase; split <;> rfl
theorem takePhrase_setCmd (n : Nat) (v : Option InFlight) (s : State) : takePhrase n (s.setCmd v) = (takePhrase n s).setCmd v :=
  setPhrase_setCmd _ _ _ _
theorem takeVia_setCmd (o : Option Nat) (v : Option InFlight) (s : State) : takeVia o (s.setCmd v) = (takeVia o s).setCmd v := by
  cases o
  · rfl
  · exact takePhrase_setCmd _ _ _
theorem takeEntry_setCmd (e : Entry) (v : Option InFlight) (s : State) : takeEntry e (s.setCmd v) = (takeEntry e s).setCmd v := by
  unfold takeEntry
  rw [takePhrase_setCmd, takeVia_setCmd]
theorem releasePhrase_setCmd (n : Nat) (v : Option InFlight) (s : State) :
    releasePhrase n (s.setCmd v) = (releasePhrase n s).setCmd v := by
  unfold releasePhrase
  have h : (s.setCmd v).phrase n = s.phrase n := rfl
  rw [h]
  split
  · rfl
  · exact setPhrase_setCmd _ _ _ _
  · split
    · rw [setPhrase_setCmd]; rfl
    · exact setPhrase_setCmd _ _ _ _
theorem releaseVia_setCmd (o : Option Nat) (v : Option InFlight) (s : State) :
    releaseVia o (s.setCmd v) = (releaseVia o s).setCmd v := by
  cases o
  · rfl
  · exact releasePhrase_setCmd _ _ _
theorem releaseEntry_setCmd (e : Entry) (v : Option InFlight) (s : State) :
    releaseEntry e (s.setCmd v) = (releaseEntry e s).setCmd v := by
  unfold releaseEntry
  rw [releasePhrase_setCmd, releaseVia_setCmd]
theorem moveReferences_setCmd (a b : Entry) (v : Option InFlight) (s : State) :
    moveReferences a b (s.setCmd v) = (moveReferences a b s).setCmd v := by
  simp only [moveReferences]
  split_ifs <;>
    simp only [takePhrase_setCmd, takeVia_setCmd, releasePhrase_setCmd, releaseVia_setCmd]

/-! ## Past setDir -/

theorem setPhrase_setDir (n : Nat) (p : Phrase) (v : Directory) (s : State) :
    (s.setDir v).setPhrase n p = (s.setPhrase n p).setDir v := by
  unfold State.setPhrase; split <;> rfl
theorem takePhrase_setDir (n : Nat) (v : Directory) (s : State) : takePhrase n (s.setDir v) = (takePhrase n s).setDir v :=
  setPhrase_setDir _ _ _ _
theorem takeVia_setDir (o : Option Nat) (v : Directory) (s : State) : takeVia o (s.setDir v) = (takeVia o s).setDir v := by
  cases o
  · rfl
  · exact takePhrase_setDir _ _ _
theorem takeEntry_setDir (e : Entry) (v : Directory) (s : State) : takeEntry e (s.setDir v) = (takeEntry e s).setDir v := by
  unfold takeEntry
  rw [takePhrase_setDir, takeVia_setDir]
theorem releasePhrase_setDir (n : Nat) (v : Directory) (s : State) :
    releasePhrase n (s.setDir v) = (releasePhrase n s).setDir v := by
  unfold releasePhrase
  have h : (s.setDir v).phrase n = s.phrase n := rfl
  rw [h]
  split
  · rfl
  · exact setPhrase_setDir _ _ _ _
  · split
    · rw [setPhrase_setDir]; rfl
    · exact setPhrase_setDir _ _ _ _
theorem releaseVia_setDir (o : Option Nat) (v : Directory) (s : State) :
    releaseVia o (s.setDir v) = (releaseVia o s).setDir v := by
  cases o
  · rfl
  · exact releasePhrase_setDir _ _ _
theorem releaseEntry_setDir (e : Entry) (v : Directory) (s : State) :
    releaseEntry e (s.setDir v) = (releaseEntry e s).setDir v := by
  unfold releaseEntry
  rw [releasePhrase_setDir, releaseVia_setDir]
theorem moveReferences_setDir (a b : Entry) (v : Directory) (s : State) :
    moveReferences a b (s.setDir v) = (moveReferences a b s).setDir v := by
  simp only [moveReferences]
  split_ifs <;>
    simp only [takePhrase_setDir, takeVia_setDir, releasePhrase_setDir, releaseVia_setDir]

/-! ## Past setMem -/

theorem setPhrase_setMem (n : Nat) (p : Phrase) (v : RecordMemory) (s : State) :
    (s.setMem v).setPhrase n p = (s.setPhrase n p).setMem v := by
  unfold State.setPhrase; split <;> rfl
theorem takePhrase_setMem (n : Nat) (v : RecordMemory) (s : State) : takePhrase n (s.setMem v) = (takePhrase n s).setMem v :=
  setPhrase_setMem _ _ _ _
theorem takeVia_setMem (o : Option Nat) (v : RecordMemory) (s : State) : takeVia o (s.setMem v) = (takeVia o s).setMem v := by
  cases o
  · rfl
  · exact takePhrase_setMem _ _ _
theorem takeEntry_setMem (e : Entry) (v : RecordMemory) (s : State) : takeEntry e (s.setMem v) = (takeEntry e s).setMem v := by
  unfold takeEntry
  rw [takePhrase_setMem, takeVia_setMem]
theorem releasePhrase_setMem (n : Nat) (v : RecordMemory) (s : State) :
    releasePhrase n (s.setMem v) = (releasePhrase n s).setMem v := by
  unfold releasePhrase
  have h : (s.setMem v).phrase n = s.phrase n := rfl
  rw [h]
  split
  · rfl
  · exact setPhrase_setMem _ _ _ _
  · split
    · rw [setPhrase_setMem]; rfl
    · exact setPhrase_setMem _ _ _ _
theorem releaseVia_setMem (o : Option Nat) (v : RecordMemory) (s : State) :
    releaseVia o (s.setMem v) = (releaseVia o s).setMem v := by
  cases o
  · rfl
  · exact releasePhrase_setMem _ _ _
theorem releaseEntry_setMem (e : Entry) (v : RecordMemory) (s : State) :
    releaseEntry e (s.setMem v) = (releaseEntry e s).setMem v := by
  unfold releaseEntry
  rw [releasePhrase_setMem, releaseVia_setMem]
theorem moveReferences_setMem (a b : Entry) (v : RecordMemory) (s : State) :
    moveReferences a b (s.setMem v) = (moveReferences a b s).setMem v := by
  simp only [moveReferences]
  split_ifs <;>
    simp only [takePhrase_setMem, takeVia_setMem, releasePhrase_setMem, releaseVia_setMem]

/-! ## Past setStore -/

theorem setPhrase_setStore (n : Nat) (p : Phrase) (v : StoreController) (s : State) :
    (s.setStore v).setPhrase n p = (s.setPhrase n p).setStore v := by
  unfold State.setPhrase; split <;> rfl
theorem takePhrase_setStore (n : Nat) (v : StoreController) (s : State) : takePhrase n (s.setStore v) = (takePhrase n s).setStore v :=
  setPhrase_setStore _ _ _ _
theorem takeVia_setStore (o : Option Nat) (v : StoreController) (s : State) : takeVia o (s.setStore v) = (takeVia o s).setStore v := by
  cases o
  · rfl
  · exact takePhrase_setStore _ _ _
theorem takeEntry_setStore (e : Entry) (v : StoreController) (s : State) : takeEntry e (s.setStore v) = (takeEntry e s).setStore v := by
  unfold takeEntry
  rw [takePhrase_setStore, takeVia_setStore]
theorem releasePhrase_setStore (n : Nat) (v : StoreController) (s : State) :
    releasePhrase n (s.setStore v) = (releasePhrase n s).setStore v := by
  unfold releasePhrase
  have h : (s.setStore v).phrase n = s.phrase n := rfl
  rw [h]
  split
  · rfl
  · exact setPhrase_setStore _ _ _ _
  · split
    · rw [setPhrase_setStore]; rfl
    · exact setPhrase_setStore _ _ _ _
theorem releaseVia_setStore (o : Option Nat) (v : StoreController) (s : State) :
    releaseVia o (s.setStore v) = (releaseVia o s).setStore v := by
  cases o
  · rfl
  · exact releasePhrase_setStore _ _ _
theorem releaseEntry_setStore (e : Entry) (v : StoreController) (s : State) :
    releaseEntry e (s.setStore v) = (releaseEntry e s).setStore v := by
  unfold releaseEntry
  rw [releasePhrase_setStore, releaseVia_setStore]
theorem moveReferences_setStore (a b : Entry) (v : StoreController) (s : State) :
    moveReferences a b (s.setStore v) = (moveReferences a b s).setStore v := by
  simp only [moveReferences]
  split_ifs <;>
    simp only [takePhrase_setStore, takeVia_setStore, releasePhrase_setStore, releaseVia_setStore]

/-! ## Past setArb -/

theorem setPhrase_setArb (n : Nat) (p : Phrase) (v : Arbiter) (s : State) :
    (s.setArb v).setPhrase n p = (s.setPhrase n p).setArb v := by
  unfold State.setPhrase; split <;> rfl
theorem takePhrase_setArb (n : Nat) (v : Arbiter) (s : State) : takePhrase n (s.setArb v) = (takePhrase n s).setArb v :=
  setPhrase_setArb _ _ _ _
theorem takeVia_setArb (o : Option Nat) (v : Arbiter) (s : State) : takeVia o (s.setArb v) = (takeVia o s).setArb v := by
  cases o
  · rfl
  · exact takePhrase_setArb _ _ _
theorem takeEntry_setArb (e : Entry) (v : Arbiter) (s : State) : takeEntry e (s.setArb v) = (takeEntry e s).setArb v := by
  unfold takeEntry
  rw [takePhrase_setArb, takeVia_setArb]
theorem releasePhrase_setArb (n : Nat) (v : Arbiter) (s : State) :
    releasePhrase n (s.setArb v) = (releasePhrase n s).setArb v := by
  unfold releasePhrase
  have h : (s.setArb v).phrase n = s.phrase n := rfl
  rw [h]
  split
  · rfl
  · exact setPhrase_setArb _ _ _ _
  · split
    · rw [setPhrase_setArb]; rfl
    · exact setPhrase_setArb _ _ _ _
theorem releaseVia_setArb (o : Option Nat) (v : Arbiter) (s : State) :
    releaseVia o (s.setArb v) = (releaseVia o s).setArb v := by
  cases o
  · rfl
  · exact releasePhrase_setArb _ _ _
theorem releaseEntry_setArb (e : Entry) (v : Arbiter) (s : State) :
    releaseEntry e (s.setArb v) = (releaseEntry e s).setArb v := by
  unfold releaseEntry
  rw [releasePhrase_setArb, releaseVia_setArb]
theorem moveReferences_setArb (a b : Entry) (v : Arbiter) (s : State) :
    moveReferences a b (s.setArb v) = (moveReferences a b s).setArb v := by
  simp only [moveReferences]
  split_ifs <;>
    simp only [takePhrase_setArb, takeVia_setArb, releasePhrase_setArb, releaseVia_setArb]

end Sys2Proof.Machine
end

