-- ==== Sys2Proof/Laws/Split.lean ====
section
/-!
SUPPORT. What the grant's progress mark does not touch: every operation inside a grant does the same whatever grant is
noted as the one in progress, and the grant's end drops the note. A step that stops halfway (log 4) is taken up by
these. At the end, the same for a fetch command's new attempt, for a composition whose view has been taken, and for a
search that stops after one claim.
-/

namespace Sys2Proof.Machine

/-- The state with another grant noted as the one in progress. -/
def withHeld (h : Option Grant) (s : State) : State := s.setArb { s.arb with held := h }

theorem withHeld_raiseEvent (k a b c d e h s) :
    raiseEvent k a b c d e (withHeld h s) = withHeld h (raiseEvent k a b c d e s) := rfl
theorem withHeld_setCopy (b n c h) (s : State) : (withHeld h s).setCopy b n c = withHeld h (s.setCopy b n c) := rfl
theorem withHeld_writeCopy (b n c h) (s : State) :
    writeCopy b n c (withHeld h s) = withHeld h (writeCopy b n c s) := rfl
theorem withHeld_setPhrase (n p h) (s : State) : (withHeld h s).setPhrase n p = withHeld h (s.setPhrase n p) := by
  unfold State.setPhrase; split <;> rfl
theorem withHeld_phrase (n h) (s : State) : (withHeld h s).phrase n = s.phrase n := rfl
theorem withHeld_takePhrase (n h s) : takePhrase n (withHeld h s) = withHeld h (takePhrase n s) := by
  simp only [takePhrase, withHeld_setPhrase, withHeld_phrase]
theorem withHeld_releasePhrase (n h s) : releasePhrase n (withHeld h s) = withHeld h (releasePhrase n s) := by
  simp only [releasePhrase, withHeld_setPhrase, withHeld_phrase]
  split
  · rfl
  · rfl
  · split <;> simp only [withHeld_raiseEvent]
theorem withHeld_takeVia (n h s) : takeVia n (withHeld h s) = withHeld h (takeVia n s) := by
  cases n <;> simp only [takeVia, withHeld_takePhrase]
theorem withHeld_releaseVia (n h s) : releaseVia n (withHeld h s) = withHeld h (releaseVia n s) := by
  cases n <;> simp only [releaseVia, withHeld_releasePhrase]
theorem withHeld_takeEntry (n h s) : takeEntry n (withHeld h s) = withHeld h (takeEntry n s) := by
  simp only [takeEntry, withHeld_takePhrase, withHeld_takeVia]
theorem withHeld_releaseEntry (n h s) : releaseEntry n (withHeld h s) = withHeld h (releaseEntry n s) := by
  simp only [releaseEntry, withHeld_releasePhrase, withHeld_releaseVia]
theorem withHeld_moveReferences (a b h s) : moveReferences a b (withHeld h s) = withHeld h (moveReferences a b s) := by
  simp only [moveReferences]
  split <;> split <;> simp only [withHeld_takePhrase, withHeld_releasePhrase, withHeld_takeVia, withHeld_releaseVia]
theorem withHeld_setOrder (l h) (s : State) : (withHeld h s).setOrder l = withHeld h (s.setOrder l) := rfl
theorem withHeld_removeEntry (a h s) : removeEntry a (withHeld h s) = withHeld h (removeEntry a s) := by
  simp only [removeEntry]; rw [show (withHeld h s).dir = s.dir from rfl, withHeld_setOrder, withHeld_releaseEntry]
theorem withHeld_releaseAll (l : List Entry) (h s) :
    l.foldl (fun t e => releaseEntry e t) (withHeld h s) = withHeld h (l.foldl (fun t e => releaseEntry e t) s) := by
  induction l generalizing s with
  | nil => rfl
  | cons a l ih => simp only [List.foldl_cons, withHeld_releaseEntry, ih]
theorem withHeld_emptyDirectory (h s) : emptyDirectory (withHeld h s) = withHeld h (emptyDirectory s) := by
  simp only [emptyDirectory]; rw [show (withHeld h s).dir = s.dir from rfl, withHeld_releaseAll]; rfl
theorem withHeld_startSweep (h s) : startSweep (withHeld h s) = withHeld h (startSweep s) := by
  unfold startSweep; split <;> (split <;> first | rfl | (exfalso; simp_all [State.sweepRuns, withHeld, State.params,
      State.setArb]))
theorem withHeld_dropRequest (r h s) : dropRequest r (withHeld h s) = withHeld h (dropRequest r s) := rfl
theorem withHeld_stopSweep (h s) : stopSweep (withHeld h s) = withHeld h (stopSweep s) := rfl
theorem withHeld_failStore (b n k o h s) : failStore b n k o (withHeld h s) = withHeld h (failStore b n k o s) := by
  simp only [failStore, emptyClaim]
  rw [show ∀ v, (withHeld h s).setStore v = withHeld h (s.setStore v) from fun _ => rfl, withHeld_emptyDirectory,
      withHeld_dropRequest, withHeld_stopSweep, withHeld_raiseEvent]; rfl
theorem withHeld_liveKeyAt (n h s) : liveKeyAt n (withHeld h s) = liveKeyAt n s := rfl
theorem withHeld_readKey (o n k h s) : readKey o n k (withHeld h s) = readKey o n k s := by cases o <;> rfl
theorem withHeld_loseBank (b n k o h s) : loseBank b n k o (withHeld h s) = withHeld h (loseBank b n k o s) := rfl
theorem withHeld_returnToOrigin (h s) : returnToOrigin (withHeld h s) = withHeld h (returnToOrigin s) := by
  simp only [returnToOrigin]
  rw [show ∀ v, (withHeld h s).setStore v = withHeld h (s.setStore v) from fun _ => rfl, withHeld_dropRequest,
      withHeld_startSweep]; rfl
theorem withHeld_failRebuild (n o h s) : failRebuild n o (withHeld h s) = withHeld h (failRebuild n o s) := by
  simp only [failRebuild]; rw [withHeld_returnToOrigin, withHeld_raiseEvent]; rfl

/-- A read's answer with another grant noted. -/
def ReadAnswer.mapHeld (h : Option Grant) : ReadAnswer → ReadAnswer
  | .body r s => .body r (withHeld h s)
  | .withdrawn s => .withdrawn (withHeld h s)
  | .gone s => .gone (withHeld h s)
  | .failed s => .failed (withHeld h s)
  | .notServing s => .notServing (withHeld h s)
/-- A write's answer with another grant noted. -/
def WriteAnswer.mapHeld (h : Option Grant) : WriteAnswer → WriteAnswer
  | .stored s => .stored (withHeld h s)
  | .failed s => .failed (withHeld h s)
  | .notServing s => .notServing (withHeld h s)

theorem withHeld_copy (b n h) (s : State) : (withHeld h s).copy b n = s.copy b n := rfl
theorem withHeld_store (h) (s : State) : (withHeld h s).store = s.store := rfl
theorem withHeld_withdraw (o n k h s) : withdraw o n k (withHeld h s) = ReadAnswer.mapHeld h (withdraw o n k s) := by
  simp only [withdraw]; rw [show entryAt k n (withHeld h s) = entryAt k n s from rfl]
  split <;> simp only [ReadAnswer.mapHeld, withHeld_removeEntry, withHeld_raiseEvent, withHeld_store]
theorem withHeld_correctCopy (b n k o h s) :
    correctCopy b n k o (withHeld h s) = withHeld h (correctCopy b n k o s) := rfl
theorem withHeld_readPrimary (o n k h s) :
    readPrimary o n k (withHeld h s) = ReadAnswer.mapHeld h (readPrimary o n k s) := by
  simp only [readPrimary, withHeld_copy, withHeld_store]
  split
  · rfl
  · by_cases hs : (s.copy s.store.primary n).stuck = true <;>
      simp only [hs, ReadAnswer.mapHeld, withHeld_writeCopy, withHeld_failStore, withHeld_correctCopy, if_true] <;> rfl
  · exact withHeld_withdraw ..
theorem withHeld_repair (o n k h s) : repair o n k (withHeld h s) = ReadAnswer.mapHeld h (repair o n k s) := by
  simp only [repair, withHeld_copy, withHeld_store, withHeld_writeCopy, withHeld_readKey]
  cases (s.copy s.store.primary n).stuck <;> cases (s.copy (otherBank s.store.primary) n).stuck <;>
    simp only [ReadAnswer.mapHeld, withHeld_raiseEvent, withHeld_loseBank, withHeld_failStore]
theorem withHeld_readMirrored (o n k h s) :
    readMirrored o n k (withHeld h s) = ReadAnswer.mapHeld h (readMirrored o n k s) := by
  simp only [readMirrored, withHeld_copy, withHeld_store, withHeld_readKey]
  split
  · rfl
  · by_cases hs : (s.copy s.store.primary n).stuck = true <;>
      simp only [hs, ReadAnswer.mapHeld, withHeld_writeCopy, withHeld_loseBank, withHeld_correctCopy, if_true] <;> rfl
  · by_cases hs : (s.copy (otherBank s.store.primary) n).check = .uncorrectable <;>
      simp only [hs, if_true, if_false, withHeld_repair, withHeld_withdraw]
theorem withHeld_readBody (o n k h s) : readBody o n k (withHeld h s) = ReadAnswer.mapHeld h (readBody o n k s) := by
  simp only [readBody, withHeld_store, withHeld_readPrimary, withHeld_readMirrored]; split <;> rfl
theorem withHeld_writePrimary (o n k h s) :
    writePrimary o n k (withHeld h s) = WriteAnswer.mapHeld h (writePrimary o n k s) := by
  simp only [writePrimary, withHeld_copy, withHeld_store, withHeld_writeCopy, withHeld_liveKeyAt]
  by_cases hs : (s.copy s.store.primary n).stuck = true <;>
      simp only [hs, WriteAnswer.mapHeld, withHeld_failStore, if_true] <;> rfl
theorem withHeld_writeMirrored (o n k h s) :
    writeMirrored o n k (withHeld h s) = WriteAnswer.mapHeld h (writeMirrored o n k s) := by
  simp only [writeMirrored, withHeld_copy, withHeld_store, withHeld_writeCopy, withHeld_liveKeyAt]
  cases (s.copy s.store.primary n).stuck <;> cases (s.copy (otherBank s.store.primary) n).stuck <;>
    simp only [WriteAnswer.mapHeld, withHeld_loseBank, withHeld_failStore]
theorem withHeld_writeBelowCursor (o n k h s) :
    writeBelowCursor o n k (withHeld h s) = WriteAnswer.mapHeld h (writeBelowCursor o n k s) := by
  simp only [writeBelowCursor, withHeld_copy, withHeld_store, withHeld_writeCopy, withHeld_liveKeyAt]
  cases (s.copy s.store.primary n).stuck <;> cases (s.copy (otherBank s.store.primary) n).stuck <;>
    simp only [WriteAnswer.mapHeld, withHeld_failRebuild, withHeld_failStore]
theorem withHeld_writeBody (o n k h s) :
    writeBody o n k (withHeld h s) = WriteAnswer.mapHeld h (writeBody o n k s) := by
  simp only [writeBody, withHeld_store, withHeld_writePrimary, withHeld_writeMirrored, withHeld_writeBelowCursor]
  split <;> first | rfl | (split <;> rfl)

theorem withHeld_applyDeferred (l h s) : applyDeferred l (withHeld h s) = withHeld h (applyDeferred l s) := by
  unfold applyDeferred
  induction l generalizing s with
  | nil => rfl
  | cons a l ih =>
    simp only [List.foldl_cons]
    rw [← ih]; congr 1
    simp only [disturbCopy]; split <;> rfl
theorem endGrant_withHeld (h s) : endGrant (withHeld h s) = endGrant s := by
  simp only [endGrant]
  rw [show (withHeld h s).arb.deferred = s.arb.deferred from rfl, withHeld_applyDeferred]
  rfl
theorem withHeld_complete (a b c h s) : complete a b c (withHeld h s) = withHeld h (complete a b c s) := rfl
theorem completeGrant_withHeld (a b c h s) : completeGrant a b c (withHeld h s) = completeGrant a b c s := by
  simp only [completeGrant, withHeld_complete, endGrant_withHeld]
theorem refuseGrant_withHeld (a h s) : refuseGrant a (withHeld h s) = refuseGrant a s := by
  simp only [refuseGrant, refuse, withHeld_complete, endGrant_withHeld]
theorem setProgress_eq_withHeld (g p s) : setProgress g p s = withHeld (some { g with progress := p }) s := rfl

/-- An insert claim's answer with another grant noted. -/
def InsertAnswer.mapHeld (h : Option Grant) : InsertAnswer → InsertAnswer
  | .served k s => .served k (withHeld h s)
  | .closed => .closed
  | .keyLive => .keyLive
  | .slotTaken => .slotTaken
/-- An update claim's answer with another grant noted. -/
def UpdateAnswer.mapHeld (h : Option Grant) : UpdateAnswer → UpdateAnswer
  | .served k s => .served k (withHeld h s)
  | .notPresent => .notPresent
  | .closed => .closed
theorem withHeld_insertClaim (e h s) : insertClaim e (withHeld h s) = InsertAnswer.mapHeld h (insertClaim e s) := by
  simp only [insertClaim]
  rw [show (withHeld h s).dir = s.dir from rfl, show ∀ k,
      lookupKey k (withHeld h s) = lookupKey k s from fun _ => rfl, show ∀ k, (withHeld h s).occupied k = s.occupied k from fun _ => rfl]
  rw [withHeld_setOrder, withHeld_takeEntry]
  repeat' split
  all_goals rfl
theorem withHeld_updateClaim (k n e h s) :
    updateClaim k n e (withHeld h s) = UpdateAnswer.mapHeld h (updateClaim k n e s) := by
  simp only [updateClaim]
  rw [show (withHeld h s).dir = s.dir from rfl, show entryAt k n (withHeld h s) = entryAt k n s from rfl]
  split
  · rfl
  · cases entryAt k n s with
    | none => rfl
    | some old => simp only [withHeld_setOrder, withHeld_moveReferences]; rfl
theorem addInsert_withHeld (n r h s) : addInsert n r (withHeld h s) = addInsert n r s := by
  simp only [addInsert, withHeld_insertClaim]
  cases insertClaim (entryOf r n) s <;> simp only [InsertAnswer.mapHeld, completeGrant_withHeld, refuseGrant_withHeld]
theorem amendUpdate_withHeld (k n r h s) : amendUpdate k n r (withHeld h s) = amendUpdate k n r s := by
  simp only [amendUpdate, withHeld_updateClaim]
  cases updateClaim k n (entryOf r n) s <;> simp only [UpdateAnswer.mapHeld, completeGrant_withHeld,
      refuseGrant_withHeld]
theorem attemptAnew_withHeld (x f k n h s) : attemptAnew x f k n (withHeld h s) = attemptAnew x f k n s := by
  simp only [attemptAnew]
  rw [show ∀ c, (withHeld h s).setCmd c = withHeld h (s.setCmd c) from fun _ => rfl, endGrant_withHeld]
theorem attemptFailed_withHeld (x f k n h s) : attemptFailed x f k n (withHeld h s) = attemptFailed x f k n s := by
  cases f <;> simp only [attemptFailed, refuseGrant_withHeld, attemptAnew_withHeld]
theorem fetchRecheck_withHeld (x f k n r h s) :
    fetchRecheck x f k n r (withHeld h s) = fetchRecheck x f k n r s := by
  simp only [fetchRecheck]
  rw [show (withHeld h s).dir = s.dir from rfl, show entryAt k n (withHeld h s) = entryAt k n s from rfl]
  simp only [refuseGrant_withHeld, attemptFailed_withHeld, completeGrant_withHeld]; rfl
theorem nextVisit_withHeld (d h s) : nextVisit d (withHeld h s) = nextVisit d s := by
  simp only [nextVisit]; rw [show ∀ d, holdNewDay d (withHeld h s) = withHeld h (holdNewDay d s) from fun _ => rfl,
      endGrant_withHeld]
theorem rebaseUpdate_withHeld (d k n r c h s) : rebaseUpdate d k n r c (withHeld h s) = rebaseUpdate d k n r c s := by
  simp only [rebaseUpdate, withHeld_updateClaim]
  cases updateClaim k n (entryOf r n) s <;> simp only [UpdateAnswer.mapHeld, nextVisit_withHeld]
theorem copierAdvance_withHeld (n h s) : copierAdvance n (withHeld h s) = copierAdvance n s := by
  simp only [copierAdvance]
  rw [show ∀ v, (withHeld h s).setStore v = withHeld h (s.setStore v) from fun _ => rfl, endGrant_withHeld]
  simp only [completeRebuild]
  rw [show ∀ v, (withHeld h s).setStore v = withHeld h (s.setStore v) from fun _ => rfl, withHeld_raiseEvent,
      withHeld_startSweep, endGrant_withHeld]; rfl
theorem copierWrite_withHeld (n v h s) : copierWrite n v (withHeld h s) = copierWrite n v s := by
  simp only [copierWrite]
  rw [show (withHeld h s).targetBank = s.targetBank from rfl]
  simp only [withHeld_copy, withHeld_writeCopy, withHeld_failRebuild, endGrant_withHeld, copierAdvance_withHeld]
theorem copierAccess_withHeld (n l h s) : copierAccess n l (withHeld h s) = copierAccess n l s := by
  cases l with
  | none => exact copierWrite_withHeld ..
  | some k =>
    simp only [copierAccess, withHeld_readPrimary, withHeld_copy, withHeld_store]
    cases readPrimary .rebuild n k s <;> simp only [ReadAnswer.mapHeld, copierWrite_withHeld, endGrant_withHeld]
theorem endSweepStep_withHeld (n h s) : endSweepStep n (withHeld h s) = endSweepStep n s := by
  simp only [endSweepStep]
  rw [show sweepMoved n (withHeld h s) = withHeld h (sweepMoved n s) from rfl, endGrant_withHeld]
theorem withHeld_sweepSecondary (n k h s) : sweepSecondary n k (withHeld h s) = withHeld h (sweepSecondary n k s) := by
  simp only [sweepSecondary, withHeld_copy, withHeld_store, sweepRewrite, withHeld_writeCopy, withHeld_raiseEvent,
      withHeld_loseBank]
  split
  · rfl
  all_goals
    by_cases hs : (s.copy (otherBank s.store.primary) n).stuck = true <;> simp only [hs, if_true] <;> rfl
theorem sweepAccess_withHeld (n l h s) : sweepAccess n l (withHeld h s) = sweepAccess n l s := by
  cases l with
  | none => exact endSweepStep_withHeld ..
  | some k =>
    simp only [sweepAccess, sweepLive, withHeld_store, sweepPrimary, sweepMirrored, withHeld_readPrimary,
        withHeld_readMirrored, endGrant_withHeld, withHeld_copy]
    cases readPrimary .sweep n k s <;> cases readMirrored .sweep n k s <;>
      simp only [ReadAnswer.mapHeld, endSweepStep_withHeld, endGrant_withHeld, withHeld_sweepSecondary, withHeld_store]

theorem composerRecheck_withHeld (x v e r h s) :
    composerRecheck x v e r (withHeld h s) = composerRecheck x v e r s := by
  simp only [composerRecheck]
  rw [show lookupKey e.key (withHeld h s) = lookupKey e.key s from rfl]
  cases lookupKey e.key s with
  | none => simp only [endGrant_withHeld]
  | some f =>
    simp only [endGrant_withHeld, placeRecord]
    rfl

/-! ## New attempts -/

/-- The new attempt that a fetch command's step has left due is made by the row's next step (R36). -/
theorem fetchGrantStep_attemptDue (x how k n s) :
    fetchGrantStep x (attemptAnew .firstPart how k n s) = attemptAnew .whole how k n s := by
  have hc : ∀ t : State, (endGrant t).cmd = t.cmd := by
    intro t
    have ha : ∀ (l : List (Bank × Nat × DisturbanceKind)) (u : State), (applyDeferred l u).cmd = u.cmd := by
      intro l
      induction l with
      | nil => exact fun _ => rfl
      | cons d l ih => exact fun u => (ih _).trans (by simp only [disturbCopy]; split <;> rfl)
    simp only [endGrant]
    split
    · exact ha _ _
    · unfold grantTo
      split <;> exact ha _ _
  unfold fetchGrantStep attemptAnew
  simp only [hc]
  rfl

/-! ## The start of a composition -/

/-- A view that a step has taken is composed for by the row's next step as by the whole one (R79). -/
theorem compositionStep_startComposition {s : State} (h : s.composer.work = .free) :
    compositionStep .whole (startComposition .firstPart s) = startComposition .whole s := by
  unfold startComposition
  cases hn : nextReady s with
  | none => simp only [compositionStep, h, startComposition, hn]
  | some v => rfl

/-- A row 0 whose notice read has given no notice is composed by the row's next step as by the whole one (R84). -/
theorem composeRow_noticeRead {v : Fin 4} {s : State} (hd : (s.view v).noticeDue = true)
    (hr : s.noticeReadable = false) : composeRow .whole v (composeRow .firstPart v s) = composeRow .whole v s := by
  simp [composeRow, hd, hr]

/-! ## Searches -/

/-- What a search's answer leads to (R80). -/
def finishSearch (v : Fin 4) (s : State) : SearchAnswer → State
  | .again w => (s.setView v w).setComposing (.searching v)
  | .nothing w => placeRow v .blank (s.setView v w)
  | .candidate w e => requestPort .composer ((s.setView v w).setComposing (.candidate v e))

theorem continueSearch_eq (x v s) :
    continueSearch x v s = finishSearch v s (searchWithin (searchLength x (s.view v)) (s.view v) s) := by
  simp only [continueSearch]; cases searchWithin (searchLength x (s.view v)) (s.view v) s <;> rfl

theorem searchWithin_succ (n w s) :
    searchWithin (n+1) w s = (match searchClaim w s with | .again w' => searchWithin n w' s | a => a) := by
  simp only [searchWithin]; cases searchClaim w s <;> rfl

theorem searchClaim_again {w w' s} (h : searchClaim w s = .again w') :
    w.skip = w'.skip + 1 ∨ (w'.skip = 0 ∧ notWrapped w'.wrapped = false) := by
  unfold searchClaim at h
  repeat' split at h
  all_goals cases h
  · left; simp only; omega
  · right; exact ⟨rfl, rfl⟩

theorem searchClaim_last {w s} (h0 : w.skip = 0) (h1 : notWrapped w.wrapped = false) (w') :
    searchClaim w s ≠ .again w' := by
  unfold searchClaim
  repeat' split
  all_goals simp_all

theorem finishSearch_congr (v s w' a) (hs : s.composer.work = .searching v) :
   finishSearch v (State.setComposing (.searching v) (s.setView v w')) a = finishSearch v s a := by
  have e : ∀ u, (State.setComposing (.searching v) (s.setView v w')).setView v u = s.setView v u := by
    intro u
    have hc : s.composer = { s.composer with work := .searching v } := by rw [← hs]
    ext1 <;> simp [State.setComposing, State.setComposer, State.setView, State.setViews]
    exact hc.symm
  cases a <;> simp only [finishSearch, e]

end Sys2Proof.Machine
end

