-- ==== Sys2Proof/Laws/Step.lean ====
section
/-!
SUPPORT. What one step can do, said once: a property is kept by every step when it is kept by a change of the queue, of
the port, of the events and of the RESET_N line, by a full reset, by every command that is accepted, and by every row
of the part itself.
-/

namespace Sys2Proof.Machine

/-- The changes that the part's own rows and the lines from outside make while RESET_N is high. -/
inductive PartRow : (State → State) → Prop
  | addGrant (x : Extent) : PartRow (addGrantStep x)
  | amendGrant (x : Extent) : PartRow (amendGrantStep x)
  | fetchGrant (x : Extent) : PartRow (fetchGrantStep x)
  | newDayVisit : PartRow newDayVisitStep
  | rebaseGrant (x : Extent) : PartRow (rebaseGrantStep x)
  | storeStateGrant : PartRow storeStateGrantStep
  | checkTestGrant : PartRow checkTestGrantStep
  | clockTick : PartRow clockTick
  | viewsTick : PartRow viewsTick
  | viewTimersTick : PartRow viewTimersTick
  | retireRemove : PartRow retireRemoveStep
  | holdTimersTick : PartRow holdTimersTick
  | minuteAdvance : PartRow minuteAdvanceStep
  | retirementStep : PartRow passStep
  | refreshExpiry (v : Fin 4) : PartRow (refreshExpiryStep v)
  | compositionStart (x : Extent) : PartRow (compositionStep x)
  | composerGrant (x : Extent) : PartRow (composerGrantStep x)
  | copierStep (x : Extent) : PartRow (copierGrantStep x)
  | clearingStep : PartRow clearingStepWork
  | sweepTimerExpiry : PartRow sweepExpiryStep
  | sweepStep (x : Extent) : PartRow (sweepGrantStep x)
  | disturbance (b : Bank) (n : Nat) (k : DisturbanceKind) : PartRow (arriveDisturbance b n k)
  | frameEnd (n : Fin 4) : PartRow (frameEndStep n)
  | take (n : Fin 4) : PartRow (takeStep n)
  | linkLost (n : Fin 4) : PartRow (linkLostStep n)
  | advanceLine (n : Fin 4) (level : Bool) : PartRow (setAdvanceLine n level)
  | advanceRise (n : Fin 4) : PartRow (advanceRiseStep n)
  | advanceRelease (n : Fin 4) : PartRow (advanceReleaseStep n)

/-- What a property must be kept by, for every step to keep it. -/
structure KeptByParts (P : State → Prop) : Prop where
  queue : ∀ s q, P s → P (s.withPending q)
  port : ∀ s p, P s → P (s.setPort p)
  events : ∀ s e, P s → P (s.setEvents e)
  inReset : ∀ s b, P s → P (s.setInReset b)
  reset : ∀ s, P (fullReset s)
  accept : ∀ n s, s.cmd = none → P s → P (acceptCommand n s)
  lookup : ∀ s, s.cmd = none → P s → P (retireLookup s)
  row : ∀ f s, PartRow f → P s → P (f s)

variable {P : State → Prop}

/-- The settlement of a read keeps such a property. -/
theorem KeptByParts.settleRead (h : KeptByParts P) (sel wasBusy : Bool) {s : State} (hs : P s) :
    P (settleRead sel wasBusy s) := by
  unfold Machine.settleRead
  split
  · split
    · exact h.events _ _ hs
    · exact h.port _ _ hs
  · exact hs

/-- Every strobe keeps such a property. -/
theorem KeptByParts.strobe (h : KeptByParts P) (sel rw : Bool) (lines : Byte) {s : State} (hs : P s) :
    P (strobe sel rw lines s) := by
  have hst : ∀ n d, P (s.strobed n d) := fun n d => h.port _ _ hs
  have raised : ∀ t, P t → P (raiseOverrun t) := fun t ht => h.events _ _ ht
  have write : ∀ b t, P t → P (takeWrite sel b t) := by
    intro b t ht
    unfold takeWrite
    split
    · unfold takeStagingWrite
      split
      · exact raised _ ht
      · exact h.port _ _ (h.port _ _ ht)
    · unfold takeCommandByte
      split
      · exact raised _ ht
      · rename_i hb
        split
        · exact h.port _ _ ht
        · split
          · exact h.port _ _ ht
          · split
            · exact h.port _ _ ht
            · exact h.accept _ _ (by simpa [State.busy] using hb) ht
  have first : P (firstHalf sel rw lines s) := by
    unfold firstHalf
    split <;> exact hst _ _
  unfold Machine.strobe
  split
  · exact hs
  · split
    · unfold strobeEight
      split
      · exact h.settleRead _ _ (hst _ _)
      · exact write _ _ (hst _ _)
    · unfold strobeFour
      split
      · exact first
      · rename_i p _
        split
        · rename_i hp
          unfold secondHalf
          have hsel := hp.1
          split
          · rw [hsel]
            exact write _ _ (hst _ _)
          · exact h.settleRead _ _ (hst _ _)
        · exact first

/-- A read by the edges that its step takes keeps such a property. -/
theorem KeptByParts.readStep (h : KeptByParts P) (sel : Bool) (x : StrobePart) {s : State} (hs : P s) :
    P (readStep sel x s) := by
  cases x with
  | whole => exact h.strobe _ _ _ hs
  | fall =>
    show P (readFall sel s)
    unfold readFall
    split
    · exact h.port _ _ hs
    · exact hs
  | rise =>
    show P (readRise sel s)
    unfold readRise
    split
    · exact hs
    · split
      · exact h.settleRead _ _ (h.port _ _ hs)
      · exact hs

/-- RETIRE's strobe with its remove claim served apart keeps such a property. -/
theorem KeptByParts.retireLookupStrobe (h : KeptByParts P) {s : State} (hs : P s) : P (retireLookupStrobe s) := by
  unfold Machine.retireLookupStrobe
  split
  · rename_i hc
    have hcmd : s.cmd = none := by
      cases hs' : s.cmd with
      | none => rfl
      | some c => simp [State.busy, hs'] at hc
    exact h.lookup _ hcmd (h.port _ _ hs)
  · exact h.strobe _ _ _ hs

/-- A second tick in any order keeps such a property. -/
theorem KeptByParts.tick (h : KeptByParts P) (order : List TickHolder) {s : State} (hs : P s) :
    P (deliverTick order s) := by
  induction order generalizing s with
  | nil => exact hs
  | cons holder rest ih =>
    have share : P (tickShare holder s) := by
      cases holder
      · exact h.row _ _ .clockTick hs
      · exact h.port _ _ hs
      · exact h.row _ _ .viewsTick hs
      · exact h.row _ _ .viewTimersTick hs
      · exact h.row _ _ .holdTimersTick hs
    unfold deliverTick
    split
    · unfold combinationReset
      split
      · exact h.reset _
      · exact share
    · exact ih share

/-- Every command keeps such a property. -/
theorem KeptByParts.exec (h : KeptByParts P) (i : Instr) {s t : State} (hs : P s) (he : exec i s = .next t) : P t := by
  have awake : ∀ f : State → State, P (f s) → whenAwake f s = .next t → P t := by
    intro f hf hn
    unfold whenAwake at hn
    injection hn with hn
    rw [← hn]
    split
    · exact hs
    · exact hf
  have line : ∀ n level (f : State → State), PartRow f → lineChange (setAdvanceLine n level) f s = .next t → P t := by
    intro n level f hf hn
    unfold lineChange at hn
    injection hn with hn
    rw [← hn]
    have hl := h.row _ _ (.advanceLine n level) hs
    split
    · exact hl
    · exact h.row _ _ hf hl
  cases i
  case add => exact awake _ (h.strobe _ _ _ hs) he
  case amend => exact awake _ (h.strobe _ _ _ hs) he
  case retire x =>
    refine awake _ ?_ he
    cases x
    · exact h.strobe _ _ _ hs
    · exact h.retireLookupStrobe hs
    · exact h.row _ _ .retireRemove hs
  case fetch => exact awake _ (h.strobe _ _ _ hs) he
  case fetchRank => exact awake _ (h.strobe _ _ _ hs) he
  case findNext => exact awake _ (h.strobe _ _ _ hs) he
  case keepalive => exact awake _ (h.strobe _ _ _ hs) he
  case definePhrase => exact awake _ (h.strobe _ _ _ hs) he
  case retirePhrase => exact awake _ (h.strobe _ _ _ hs) he
  case readPhrase => exact awake _ (h.strobe _ _ _ hs) he
  case configureView => exact awake _ (h.strobe _ _ _ hs) he
  case startView => exact awake _ (h.strobe _ _ _ hs) he
  case stopView => exact awake _ (h.strobe _ _ _ hs) he
  case shiftView => exact awake _ (h.strobe _ _ _ hs) he
  case readView => exact awake _ (h.strobe _ _ _ hs) he
  case setClock => exact awake _ (h.strobe _ _ _ hs) he
  case newDay => exact awake _ (h.strobe _ _ _ hs) he
  case setStoreState => exact awake _ (h.strobe _ _ _ hs) he
  case clear => exact awake _ (h.strobe _ _ _ hs) he
  case readState => exact awake _ (h.strobe _ _ _ hs) he
  case checkTest => exact awake _ (h.strobe _ _ _ hs) he
  case setParameter => exact awake _ (h.strobe _ _ _ hs) he
  case readParameter => exact awake _ (h.strobe _ _ _ hs) he
  case readEvents => exact awake _ (h.strobe _ _ _ hs) he
  case clearEvents => exact awake _ (h.strobe _ _ _ hs) he
  case setMasks => exact awake _ (h.strobe _ _ _ hs) he
  case readCapture => exact awake _ (h.strobe _ _ _ hs) he
  case clearCapture => exact awake _ (h.strobe _ _ _ hs) he
  case restart => exact awake _ (h.strobe _ _ _ hs) he
  case width8 => exact awake _ (h.strobe _ _ _ hs) he
  case width4 => exact awake _ (h.strobe _ _ _ hs) he
  case stagingRead x => exact awake _ (h.readStep _ x hs) he
  case statusRead x => exact awake _ (h.readStep _ x hs) he
  case pointer bits => exact awake _ (h.strobe _ _ _ hs) he
  case badCommand byte => exact awake _ (h.strobe _ _ _ hs) he
  case stagingWrite byte => exact awake _ (h.strobe _ _ _ hs) he
  case firstNibble sel rw lines => exact awake _ (h.strobe _ _ _ hs) he
  case addGrant x => exact awake _ (h.row _ _ (.addGrant x) hs) he
  case amendGrant x => exact awake _ (h.row _ _ (.amendGrant x) hs) he
  case fetchGrant x => exact awake _ (h.row _ _ (.fetchGrant x) hs) he
  case newDayVisit => exact awake _ (h.row _ _ (.newDayVisit) hs) he
  case rebaseGrant x => exact awake _ (h.row _ _ (.rebaseGrant x) hs) he
  case storeStateGrant => exact awake _ (h.row _ _ (.storeStateGrant) hs) he
  case checkTestGrant => exact awake _ (h.row _ _ (.checkTestGrant) hs) he
  case minuteAdvance => exact awake _ (h.row _ _ (.minuteAdvance) hs) he
  case retirementStep => exact awake _ (h.row _ _ (.retirementStep) hs) he
  case refreshExpiry v => exact awake _ (h.row _ _ (.refreshExpiry v) hs) he
  case compositionStart x => exact awake _ (h.row _ _ (.compositionStart x) hs) he
  case composerGrant x => exact awake _ (h.row _ _ (.composerGrant x) hs) he
  case copierStep x => exact awake _ (h.row _ _ (.copierStep x) hs) he
  case clearingStep => exact awake _ (h.row _ _ (.clearingStep) hs) he
  case sweepTimerExpiry => exact awake _ (h.row _ _ (.sweepTimerExpiry) hs) he
  case sweepStep x => exact awake _ (h.row _ _ (.sweepStep x) hs) he
  case disturbance b n k => exact awake _ (h.row _ _ (.disturbance b n k) hs) he
  case frameEnd n => exact awake _ (h.row _ _ (.frameEnd n) hs) he
  case take n => exact awake _ (h.row _ _ (.take n) hs) he
  case linkLost n => exact awake _ (h.row _ _ (.linkLost n) hs) he
  case nibbleTimeout => exact awake _ (h.port _ _ hs) he
  case secondTick order => exact awake _ (h.tick order hs) he
  case advanceRise n => exact line n true _ (.advanceRise n) he
  case advanceRelease n => exact line n false _ (.advanceRelease n) he
  case stale =>
    refine awake _ ?_ he
    unfold staleStep
    split
    · exact h.port _ _ hs
    · exact hs
  case linkCombinationReset =>
    refine awake _ ?_ he
    unfold combinationReset
    split
    · exact h.reset _
    · exact hs
  case resetN =>
    injection he with he
    rw [← he]
    exact h.inReset _ _ (h.reset _)
  case powerOn =>
    injection he with he
    rw [← he]
    exact h.reset _
  case resetNRelease =>
    injection he with he
    rw [← he]
    unfold resetNReleaseStep
    split
    · exact h.inReset _ _ (h.reset _)
    · exact hs

/-- Every step keeps such a property. -/
theorem KeptByParts.step (h : KeptByParts P) {s t : State} (hs : P s) (he : step s = .next t) : P t := by
  unfold Machine.step at he
  split at he
  · injection he with he
    exact he ▸ hs
  · exact h.exec _ (h.queue _ _ hs) he

end Sys2Proof.Machine
end

