-- ==== Sys2Proof/Tests/Slice0.lean ====
section
/-!
SUPPORT. Tests: ill-formed commands are refused; each row does what its rule says on a small state; frames and layouts
have the bytes of the worked examples; and for every statement with hypotheses a concrete state meets them, clause by
clause.
-/

open Sys2Proof Sys2Proof.Machine

namespace Sys2Proof.Tests

/-! ## Small states -/

/-- The staging area holds the bytes given, and 0x00 after them. -/
def stage (l : List Nat) (s : State) : State := s.setStaging (stagingOf (l.map byteOf))

/-- The record of key 805 that `live` holds in slot 0. -/
def rec805 : RecordBody :=
  { key := 805, scheduled := 1085, expected := none, platform := some 3, status := .boarding, held := false,
    carried := false, destination := 1, via := some 2, attributes := [3], amendments := 255 }

/-- A record of the new day with an expected time: its scheduled time is of the old day. -/
def rec912 : RecordBody :=
  { key := 912, scheduled := 1430, expected := some 1465, platform := none, status := .planned, held := false,
    carried := false, destination := 1, via := none, attributes := [], amendments := 4 }

/-- Phrases 1 and 63 DEFINED, phrase 2 RETIRING with one reference, phrase 3 RETIRING with two. -/
def phrases : Vector Phrase 63 :=
  (((State.reset.phrases.set 0 { state := .defined, text := [0x4C, 0x41, 0x54, 0x45], count := 1 }).set 1
    { state := .retiring, text := [0x56, 0x49, 0x41], count := 1 }).set 2
    { state := .retiring, text := [0x58], count := 2 }).set 62 { state := .defined, text := [0x5A], count := 0 }

/-- A store with one live record, in a store state given. -/
def holds (r : RecordBody) (st : StoreState) : State :=
  { State.reset with
    store := { StoreController.reset with state := st }
    dir := { isOpen := true, order := [entryOf r 0] }
    mem := { bankA := [(0, goodCopy r)], bankB := [(0, goodCopy r)] }
    phrases := phrases
    clock := { seconds := 59, minute := 1440, isSet := true, hold := false } }

/-- The MIRRORED store with the record of key 805. -/
def live : State := holds rec805 .mirrored

/-- A grant begun. -/
def granted (r : Requester) (slot : Option Nat) (key : Nat) (s : State) : State :=
  s.setArb { s.arb with held := some { holder := r, slot := slot, key := key, progress := .begun } }

/-- The state with a command in flight, its grant begun. -/
def serves (c : InFlight) (s : State) : State :=
  granted .command (commandTarget c).1 (commandTarget c).2 (s.setCmd (some c))

/-- A view of a state replaced. -/
def withView (v : Fin 4) (w : View) (s : State) : State := s.setView v w

/-- A link of a state replaced. -/
def withLink (n : Fin 4) (l : Link) (s : State) : State := s.setLink n l

/-- What the record layout stages: key, scheduled, expected (0 absent), platform, status byte, destination, via, one
attribute code and the amend mask. -/
def input (key scheduled expected platform status destination via code mask : Nat) : List Nat :=
  [key / 256, key % 256, scheduled / 256, scheduled % 256, expected / 256, expected % 256, platform, status,
    destination, via, 1, code, 0, 0, 0, mask]

/-- The row answers a next state that passes the test. -/
def gives (i : Instr) (s : State) (test : State → Bool) : Bool :=
  match exec i s with
  | .next t => test t
  | _ => false

/-- The row ends with a result code and nothing in flight. -/
def ends (i : Instr) (s : State) (rc : ResultCode) : Bool :=
  gives i s fun t => t.port.lastResult == rc && t.cmd == none

/-- The first staging bytes, as numbers. -/
def out (n : Nat) (t : State) : List Nat := t.places 0 n

/-! ## Well-formed commands -/

theorem test_badCommand_refusesAssigned : (Instr.badCommand 0x3F).wellFormed = false := by decide
theorem test_badCommand_refusesPointer : (Instr.badCommand 0x80).wellFormed = false := by decide
theorem test_badCommand_takesUnassigned : (Instr.badCommand 0x07).wellFormed = true := by decide
theorem test_secondTick_refusesTwice :
    (Instr.secondTick [.serviceClock, .serviceClock, .viewEngine, .boardLinks]).wellFormed = false := by decide
theorem test_secondTick_refusesFive :
    (Instr.secondTick [.serviceClock, .controlPort, .viewEngine, .boardLinks, .boardLinks]).wellFormed = false := by
  decide
theorem test_secondTick_refusesBothViewNames :
    (Instr.secondTick [.serviceClock, .controlPort, .viewEngine, .viewTimers]).wellFormed = false ∧
      (Instr.secondTick [.viewTimers, .controlPort, .viewEngine, .boardLinks]).wellFormed = false := by decide
theorem test_secondTick_takesViewTimers :
    (Instr.secondTick [.viewTimers, .controlPort, .serviceClock, .boardLinks]).wellFormed = true := by decide
theorem test_disturbance_refusesSlot256 : (Instr.disturbance .A 256 .stuck).wellFormed = false := by decide
theorem test_disturbance_takesSlot255 : (Instr.disturbance .A 255 .stuck).wellFormed = true := by decide

/-! ## Record commands -/

theorem test_add : gives .add (stage (input 42 1439 0 0 0 63 0 31 0) live) fun t =>
    t.cmd == some (.add 42 1) && t.arb.held == some { holder := .command, slot := some 1, key := 42, progress := .begun }
    := by decide
theorem test_add_duplicate : ends .add (stage (input 805 1439 0 0 0 63 0 31 0) live) .duplicateKey := by decide
theorem test_addGrant :
    gives (.addGrant .whole) (serves (.add 42 1) (stage (input 42 1000 0 0 0 63 0 31 0) live)) fun t =>
      out 20 t == [0, 0, 0, 0, 0, 0, 0, 0, 0, 0, 0, 0, 0, 0, 0, 0, 0, 1, 0, 0] &&
        (t.dir.order.map fun e => e.key) == [42, 805] && (t.phrase 63).count == 1 && t.port.lastResult == .ok := by
  decide
theorem test_amend : gives .amend (stage (input 805 0 0 7 0 0 0 0 4) live) fun t => t.cmd == some (.amend 805 0 0) := by
  decide
theorem test_amend_emptyMask : ends .amend (stage (input 805 0 0 7 0 0 0 0 0) live) .fieldRange := by decide
theorem test_amendGrant :
    gives (.amendGrant .whole) (serves (.amend 805 0 0) (stage (input 805 0 0 7 0 0 0 0 4) live)) fun t =>
      out 20 t == [0, 0, 0, 0, 0, 0, 0, 0, 0, 0, 0, 0, 0, 0, 0, 0, 0, 0, 0, 0] &&
        t.copy .B 0 == goodCopy { rec805 with platform := some 7, amendments := 0 } && t.cmd == none := by
  decide
theorem test_retire : gives (.retire .whole) (stage [3, 37] live) fun t =>
    t.dir.order == [] && (t.phrase 1).count == 0 && t.phrase 2 == freePhrase && t.flags == 0x800 := by decide
theorem test_retire_unknown : ends (.retire .whole) (stage [3, 38] live) .unknownKey := by decide

/-- A RETIRE in flight that waits for its remove claim. -/
def retiring (key slot rank : Nat) (s : State) : State := s.setCmd (some (.retire key slot rank))

theorem test_retire_lookup : gives (.retire .lookup) (stage [3, 37] live) fun t =>
    t == retiring 805 0 0 (stage [3, 37] live) && t.commandWait == some .waitsForClaim &&
      t.cmd.bind InFlight.claimRank == some 0 := by decide
theorem test_retire_remove : gives (.retire .remove) (retiring 805 0 0 live) fun t =>
    t.dir.order == [] && t.cmd == none && (t.phrase 1).count == 0 && t.port.lastResult == .ok := by decide
theorem test_fetch : gives .fetch (stage [3, 37] live) fun t => t.cmd == some (.fetch (.byKey 805) 805 0 0) := by decide
theorem test_fetchRank_none : ends .fetchRank (stage (List.replicate 19 0 ++ [1]) live) .noSuchRank := by decide
theorem test_findNext_end : ends .findNext (stage [3, 37, 4, 61] live) .endOfOrder := by decide
theorem test_fetchGrant : gives (.fetchGrant .whole) (serves (.fetch (.byKey 805) 805 0 0) live) fun t =>
    out 20 t == [3, 37, 4, 61, 0, 0, 3, 1, 1, 2, 1, 3, 0, 0, 0, 0, 255, 0, 0, 0] := by decide
/-- A store with both copies of slot 0 UNCORRECTABLE. -/
def unreadable (s : State) : State :=
  (s.setCopy .A 0 { goodCopy rec805 with check := .uncorrectable }).setCopy .B 0
    { goodCopy rec805 with check := .uncorrectable }

/-- A fetch command whose record, of key 804, has left slot 0, with the slot's copies UNCORRECTABLE. -/
def leftBehind (how : Find) : State := serves (.fetch how 804 0 0) (unreadable live)

/-- FETCH RANK once the grant of its failed attempt has ended, its new attempt due. -/
def attemptDue : State := endGrant ((leftBehind (.byRank 0)).setCmd (some (.refetch (.byRank 0) 804 0)))

theorem test_fetchGrant_attemptDue : gives (.fetchGrant .firstPart) (leftBehind (.byRank 0)) fun t =>
    t == attemptDue && t.arb.held == none && t.commandWait == some .waitsForClaim &&
      t.cmd.map InFlight.claimResult == some .unknownKey := by decide
theorem test_fetchGrant_newAttempt : gives (.fetchGrant .firstPart) attemptDue fun t =>
    t.cmd == some (.fetch (.byRank 0) 805 0 0) && t.commandWait == some .holdsGrant := by decide
theorem test_fetchGrant_newAttempt_closed :
    ends (.fetchGrant .whole) (attemptDue.setStore StoreController.reset |> emptyDirectory) .notServing := by decide
theorem test_keepalive :
    gives .keepalive { State.reset with port := { ControlPort.reset with silence := 7, stale := true } } fun t =>
      t == State.reset := by decide

/-! ## Phrase commands -/

theorem test_definePhrase : gives .definePhrase (stage [4, 0, 0, 0, 2, 0x4F, 0x4B] live) fun t =>
    t.phrase 4 == { state := .defined, text := [0x4F, 0x4B], count := 0 } := by decide
theorem test_retirePhrase : gives .retirePhrase (stage [1] live) fun t => out 5 t == [1, 2, 0, 1, 0] := by decide
theorem test_retirePhrase_unused : gives .retirePhrase (stage [63] live) fun t => out 5 t == [63, 0, 0, 0, 0] := by
  decide
theorem test_readPhrase : gives .readPhrase (stage [1] live) fun t =>
    out 10 t == [1, 1, 0, 1, 4, 0x4C, 0x41, 0x54, 0x45, 0] := by decide

/-! ## Views -/

theorem test_configureView : gives .configureView (stage [3, 60, 3, 3, 15, 255, 16, 2, 60, 255] live) fun t =>
    (t.view 3).config ==
      { platformFirst := 60, platformLast := 3, includeUnassigned := true, statuses := 0xF, offset := 255,
        rowCount := 16, wrap := true, mode := .stepped, refresh := 60, takeLimit := 255 } := by decide
theorem test_configureView_busy :
    ends .configureView (stage [0, 1, 1, 0, 1, 0, 1, 0, 1, 1] (withView 0 { View.reset with state := .running } live))
      .viewBusy := by decide
theorem test_startView : gives .startView (stage [2] live) fun t =>
    (t.view 2).state == .running && (t.view 2).passNumber == 1 && out 12 t == [0, 0, 0, 0, 0, 0, 0, 0, 0, 0, 0, 1] := by
  decide
theorem test_stopView : gives .stopView (stage [1] (withView 1 { View.reset with state := .running } live)) fun t =>
    (t.view 1).state == .idle := by decide
theorem test_shiftView_back : gives .shiftView (stage ([0] ++ List.replicate 15 0 ++ [1, 1]) live) fun t =>
    (t.view 0).config.offset == 255 := by decide
theorem test_readView : gives .readView (stage [1] live) fun t =>
    out 16 t == [1, 1, 63, 1, 15, 0, 8, 0, 10, 10, 0, 0, 0, 0, 0, 0] := by decide
theorem test_refreshExpiry :
    gives (.refreshExpiry 0) (withView 0 { View.reset with state := .resting, refreshTimer := some 1 } live) fun t =>
      (t.view 0).state == .running && (t.view 0).passNumber == 1 := by decide

/-- View 0 RUNNING in the live store. -/
def running : State := withView 0 { View.reset with state := .running } live

theorem test_viewTimers :
    gives (.secondTick [.viewTimers, .boardLinks, .controlPort, .serviceClock])
      (withView 0 { View.reset with state := .resting, refreshTimer := some 1 } live) fun t =>
        (t.view 0).state == .resting && (t.view 0).refreshTimer == some 0 && (t.view 0).refreshDue := by decide
theorem test_refreshExpiry_afterTick :
    gives (.refreshExpiry 0) (withView 0 { View.reset with state := .resting, refreshTimer := some 0 } live) fun t =>
      (t.view 0).state == .running && (t.view 0).refreshTimer == none := by decide

theorem test_compositionStart : gives (.compositionStart .whole) running fun t =>
    t.composer.work == .candidate 0 (entryOf rec805 0) &&
      t.arb.held == some { holder := .composer, slot := some 0, key := 805, progress := .begun } := by decide

/-- View 0 taken, its composition's first access due. -/
def taken : State := running.setComposer { work := .taken 0, lastServed := 0 }

theorem test_compositionStart_takes : gives (.compositionStart .firstPart) running fun t => t == taken := by decide

/-- R91: a composition begun before the hold goes on under it; its first claim finds what NEW DAY has left. -/
theorem test_compositionStart_underHold :
    gives (.compositionStart .whole) ((taken.setOrder []).setClock { live.clock with hold := true }) fun t =>
      t.composer.work == .free && (t.link 0).slot.any fun row => row.content == .blank := by decide
theorem test_stopView_taken : gives .stopView (stage [0] taken) fun t =>
    t.composer == { work := .free, lastServed := 0 } && (t.view 0).state == .idle := by decide

/-- The composer's grant on its candidate in view 0. -/
def composing : State :=
  granted .composer (some 0) 805
    (running.setComposer { work := .candidate 0 (entryOf rec805 0), lastServed := 0 })

theorem test_composerGrant : gives (.composerGrant .whole) composing fun t =>
    (t.link 0).state == .sending && (t.link 0).frame.length == 17 + 4 + 3 + 1 && (t.view 0).rowIndex == 1 &&
      byteSum (t.link 0).frame == 0 := by decide

/-- R175's first example: the BLANK row of view 1, row index 3, pass 12. -/
theorem test_frame_blank :
    rowFrame { view := 1, index := 3, passNumber := 12, stale := false, content := .blank } =
      [0x05, 0x43, 0x00, 0x0C, 0xAC] := by decide

/-- R175's second example: the NOTICE row with the text LATE. -/
theorem test_frame_notice :
    rowFrame { view := 0, index := 0, passNumber := 7, stale := true, content := .notice [0x4C, 0x41, 0x54, 0x45] } =
      [0x0A, 0x00, 0x82, 0x07, 0x04, 0x4C, 0x41, 0x54, 0x45, 0x43] := by decide

/-- R113: the byte 0x05 on the FRAME line, between its start and its stop bit; high after it. -/
theorem test_frameLevel :
    (List.range 11).map ({ Link.reset false with frame := [0x05] } : Link).frameLevel =
      [false, true, false, true, false, false, false, false, false, true, true] := by decide

/-! ## Clock and retirement -/

theorem test_setClock : gives .setClock (stage [11, 63] State.reset) fun t =>
    t.clock.minute == 2879 && t.clock.isSet && t.flags == 0x200 && t.retire.pass == some { time := 0, key := 0 } := by
  decide
theorem test_newDay : gives .newDay live fun t => t.clock.minute == 0 && t.clock.hold && t.retire.pending := by decide
theorem test_newDay_early : ends .newDay State.reset .clockUnset := by decide

/-- NEW DAY in flight, no entry awaiting its rebase. -/
def day : NewDay :=
  { minute := 0, visit := { time := 0, key := 0 }, rebase := none, retired := 0, rebased := 0, clamped := 0,
    withdrawn := 0 }

/-- The live store in NEW DAY. -/
def inDay (r : RecordBody) (d : NewDay) : State :=
  let s := holds r .mirrored
  { s with cmd := some (.newDay d), clock := { s.clock with minute := 0, hold := true },
           retire := { pass := none, pending := true } }

theorem test_newDayVisit_removes : gives .newDayVisit (inDay rec805 day) fun t =>
    t.dir.order == [] && t.cmd == some (.newDay { day with visit := { time := 1085, key := 805 }, retired := 1 }) := by
  decide
theorem test_newDayVisit_selects : gives .newDayVisit (inDay rec912 day) fun t =>
    t.arb.held == some { holder := .command, slot := some 0, key := 912, progress := .begun } := by decide

/-- NEW DAY's rebase grant on the record of key 912. -/
def rebasing : State :=
  granted .command (some 0) 912
    (inDay rec912 { day with visit := { time := 1465, key := 912 }, rebase := some (912, 0) })

theorem test_rebaseGrant : gives (.rebaseGrant .whole) rebasing fun t =>
    t.copy .A 0 == goodCopy { rec912 with scheduled := 0, expected := some 25, carried := true } &&
      (t.dir.order.map fun e => e.effective) == [25] := by decide
theorem test_secondTick : gives (.secondTick [.boardLinks, .controlPort, .viewEngine, .serviceClock]) live fun t =>
    t.clock.seconds == 0 && t.clock.minute == 1441 && t.port.silence == 1 && t.retire.pass.isSome := by decide
theorem test_minuteAdvance : gives .minuteAdvance live fun t => t.clock.minute == 1441 && t.retire.pass.isSome := by
  decide

/-- A retirement pass at the front of the live store. -/
def walking (s : State) : State := { s with retire := { pass := some { time := 0, key := 0 }, pending := false } }

theorem test_retirementStep : gives .retirementStep (walking live) fun t =>
    t.dir.order == [] && t.retire.pass == some { time := 1085, key := 805 } := by decide

/-- P3 set, one tick short of the silence limit. -/
def nearSilent : State :=
  { State.reset with
    port := { ControlPort.reset with silence := 1, params := { Params.reset with silenceLimit := 2 } } }

theorem test_stale : gives .stale nearSilent fun t => t.port.stale && t.flags == 0x080 && t.attn && t.faultLine := by
  decide

/-! ## Store -/

theorem test_setStoreState : gives .setStoreState (stage [1, 0] State.reset) fun t =>
    t.cmd == some (.storeState .clearing .A) := by decide
theorem test_setStoreState_bad : ends .setStoreState (stage [4, 0] State.reset) .badTransition := by decide
theorem test_clear : gives .clear (stage [1, 0] live) fun t => t.cmd == some (.storeState .clearing .A) := by decide
theorem test_storeStateGrant : gives .storeStateGrant (serves (.storeState .clearing .A) live) fun t =>
    t.store.state == .clearing && t.dir == { isOpen := false, order := [] } && (t.phrase 1).count == 0 &&
      t.cmd == none := by decide
theorem test_emptyClaim : (emptyClaim live).1 = 1 ∧ (emptyClaim live).2.dir = { isOpen := false, order := [] } := by decide
theorem test_readState : gives .readState live fun t =>
    out 15 t == [4, 0, 0, 0, 0, 0, 0, 0, 0, 1, 5, 160, 59, 1, 0] := by decide
theorem test_checkTest : gives .checkTest (stage [1, 255, 2] State.reset) fun t =>
    t.cmd == some (.checkTest .B 255 .stuck) := by decide
theorem test_checkTestGrant : gives .checkTestGrant (serves (.checkTest .B 0 .correctable) live) fun t =>
    (t.copy .B 0).check == .correctable && (t.copy .A 0).check == .good := by decide

/-- A store that clears, its cursor at the slot given. -/
def clearing (n : Nat) : State :=
  { State.reset with store := { StoreController.reset with state := .clearing, clearingCursor := n } }

theorem test_clearingStep : gives .clearingStep (clearing 0) fun t =>
    t.store.clearingCursor == 1 && (t.copy .B 0).contents == .free := by decide
theorem test_clearingStep_last : gives .clearingStep (clearing 255) fun t => t.store.state == .ready := by decide

/-- A store that rebuilds bank B, its copier's grant on the slot given. -/
def rebuilding (n : Nat) : State :=
  let s := holds rec805 .rebuilding
  granted .copier (some n) 0
    { s with mem := { s.mem with bankB := [] },
             store := { s.store with origin := some .single, rebuildCursor := n } }

theorem test_copierStep : gives (.copierStep .whole) (rebuilding 0) fun t =>
    t.copy .B 0 == goodCopy rec805 && t.store.rebuildCursor == 1 &&
      t.arb.held == some { holder := .copier, slot := some 1, key := 0, progress := .begun } := by decide

/-- R136 step 3: the key that the slot query answered stands in the capture, though the record has left since. -/
theorem test_copierStep_keepsKey :
    gives (.copierStep .whole)
      (let s := ((rebuilding 0).setCopy .A 0 { goodCopy rec805 with check := .correctable, stuck := true }).setOrder []
       s.setArb { s.arb with
         held := some { holder := .copier, slot := some 0, key := 0, progress := .queried (some 805) } }) fun t =>
      t.store.state == .failed && (t.events.firstFatal.bind fun c => c.key) == some 805 := by decide
theorem test_copierStep_last : gives (.copierStep .whole) (rebuilding 255) fun t =>
    t.store.state == .mirrored && t.flags == 0x020 := by decide

/-- The live store with its sweep about to act. -/
def sweeping : State := { live with sweep := { cursor := 0, timer := some 1, setAnew := false } }

theorem test_sweepTimerExpiry : gives .sweepTimerExpiry sweeping fun t =>
    t.sweep.timer == none && t.arb.held == some { holder := .sweep, slot := some 0, key := 0, progress := .begun } := by
  decide
theorem test_sweepStep :
    gives (.sweepStep .whole) (granted .sweep (some 0) 0 (live.setCopy .B 0 { goodCopy rec805 with check := .correctable }))
      fun t => t.copy .B 0 == goodCopy rec805 && t.flags == 0x001 && t.sweep.cursor == 1 := by decide
theorem test_disturbance : gives (.disturbance .A 0 .uncorrectable) live fun t =>
    t.copy .A 0 == { goodCopy rec805 with check := .uncorrectable } := by decide
theorem test_disturbance_waits : gives (.disturbance .A 0 .stuck) (granted .sweep (some 0) 0 live) fun t =>
    t.mem == live.mem && t.arb.deferred == [(.A, 0, .stuck)] := by decide

/-! ## Parameters and events -/

theorem test_setParameter : gives .setParameter (stage [7, 3, 232] State.reset) fun t => t.params.sweepInterval == 1000
    := by decide
theorem test_setParameter_notice : gives .setParameter (stage [5, 0, 63] live) fun t =>
    t.params.noticePhrase == 63 && (t.phrase 63).count == 1 := by decide
theorem test_readParameter : gives .readParameter (stage [9] State.reset) fun t => out 4 t == [9, 0, 255, 0] := by decide

/-- A state whose Event Unit has flags and captures to show. -/
def eventful : State :=
  { State.reset with
    events := { EventUnit.reset with
      sticky := 0x403
      firstError := some
        { kind := .linkLost, minute := some 1082, slot := none, key := none, bank := none, link := some 3,
          operation := .link } } }

theorem test_readEvents : gives .readEvents eventful fun t => out 8 t == [4, 3, 15, 255, 0, 144, 2, 0] := by decide
theorem test_clearEvents : gives .clearEvents (stage [4, 1] eventful) fun t => t.flags == 0x002 := by decide
theorem test_setMasks : gives .setMasks (stage [0, 0, 0, 2, 4, 0] eventful) fun t =>
    t.events.attention == 2 && t.events.fault == 0x400 && t.attn && t.faultLine := by decide
theorem test_readCapture : gives .readCapture (stage [1] eventful) fun t =>
    out 12 t == [0, 1, 10, 132, 58, 8, 0, 0, 0, 0, 3, 5] := by decide
theorem test_clearCapture : gives .clearCapture (stage [1] eventful) fun t => t.events.firstError == none := by decide

/-! ## Control Port -/

/-- A state in width 4 with a nibble pending or none. -/
def four (p : Option PendingNibble) : State :=
  { State.reset with port := { ControlPort.reset with width := .four, pendingNibble := p } }

theorem test_restart : gives .restart running fun t => (t.view 0).state == .idle && t.dir == live.dir := by decide
theorem test_pointer : gives (.pointer 0x5F) State.reset fun t =>
    t.port.pointer == 31 && t.port.direction == .decrement := by decide
theorem test_width8 :
    gives .width8 (four (some { sel := false, half := .write 4 })) fun t => t.port.width == .eight := by decide
theorem test_width4 : gives .width4 State.reset fun t => t.port.width == .four := by decide
theorem test_badCommand : ends (.badCommand 0x07) State.reset .badCommand := by decide
theorem test_stagingWrite : gives (.stagingWrite 0xA5) State.reset fun t =>
    t.place 0 == 0xA5 && t.port.pointer == 1 := by decide
theorem test_stagingRead_busy :
    gives .stagingRead (serves (.storeState .clearing .A) (stage [9] State.reset)) fun t =>
      t.port.driven == .byte 0 && t.port.pointer == 0 && t.flags == 0x100 := by decide

/-- The strobe of a width-8 read is low, with the sample given. -/
def lowRead (r : ReadSample) (s : State) : State := s.setPort { s.port with lowRead := some r, driven := .byte r.byte }

theorem test_stagingRead_fall : gives (.stagingRead .fall) (serves (.storeState .clearing .A) State.reset) fun t =>
    t == lowRead { sel := true, byte := 0, busy := true } (serves (.storeState .clearing .A) State.reset) := by decide
theorem test_stagingRead_rise_afterCompletion :
    gives .storeStateGrant (lowRead { sel := true, byte := 0, busy := true } (serves (.storeState .clearing .A) live))
      fun m => m.cmd == none && gives (.stagingRead .rise) m fun t =>
        t.port.pointer == 0 && t.flags.getLsbD 8 && t.port.lowRead == none := by decide
theorem test_stagingRead_rise :
    gives (.stagingRead .rise) (lowRead { sel := true, byte := 9, busy := false } live) fun t => t.port.pointer == 1 && t.flags == 0 && t.port.driven == .byte 9 := by decide
theorem test_command_whileReadIsLow :
    gives .keepalive (lowRead { sel := false, byte := 0, busy := false } nearSilent) fun t =>
      t.port.silence == nearSilent.port.silence := by decide
theorem test_statusRead : gives .statusRead (serves (.storeState .clearing .A) eventful) fun t =>
    t.port.driven == .byte 0xC0 := by decide
theorem test_firstNibble : gives (.firstNibble false false 0x1F) (four none) fun t =>
    t.port.pendingNibble == some { sel := false, half := .write 1 } := by decide
theorem test_nibbleTimeout :
    gives .nibbleTimeout (four (some { sel := true, half := .write 4 })) fun t => t == four none := by decide

/-! ## Links and resets -/

/-- A BLANK row of view 0. -/
def blank : Row := { view := 0, index := 0, passNumber := 1, stale := false, content := .blank }

/-- Link 0 waiting for TAKE, with a parked row or none. -/
def awaiting (parked : Option Row) : State :=
  withLink 0 { Link.reset false with state := .awaitTake, slot := some blank, parked := parked, takeTimer := some 10 }
    State.reset

theorem test_frameEnd : gives (.frameEnd 0) (withLink 0 ((Link.reset false).sends blank) State.reset) fun t =>
    (t.link 0).state == .awaitTake && (t.link 0).takeTimer == some 10 && (t.link 0).frame == [] := by decide
theorem test_take : gives (.take 0) (awaiting none) fun t => (t.link 0).state == .idle && (t.link 0).slot == none := by
  decide
theorem test_linkLost : gives (.linkLost 0) (awaiting none) fun t =>
    (t.link 0).state == .lost && (t.view 0).state == .halted && t.flags == 0x400 := by decide
theorem test_advanceRise :
    gives (.advanceRise 0) (withView 0 { View.reset with state := .stepWait } State.reset) fun t =>
      (t.view 0).state == .running && (t.link 0).advance := by decide
theorem test_advanceRelease : gives (.advanceRelease 0) (withLink 0 (Link.reset true) State.reset) fun t =>
    t == State.reset := by decide

/-- Links 0 and 3 held for three ticks, both named by P10. -/
def combined : State :=
  withLink 3 { Link.reset true with holdTimer := 3, heldAtTick := true }
    (withLink 0 { Link.reset true with holdTimer := 3, heldAtTick := true }
      (live.setParams { Params.reset with resetLinks := 9 }))

theorem test_linkCombinationReset : gives .linkCombinationReset combined fun t =>
    t == withLink 3 (Link.reset true) (withLink 0 (Link.reset true) State.reset) := by decide
theorem test_resetN : gives .resetN live fun t => t == State.reset.setInReset true := by decide
theorem test_resetNRelease : gives .resetNRelease (State.reset.setInReset true) fun t => t == State.reset := by decide
theorem test_powerOn : gives .powerOn live fun t => t == State.reset := by decide

/-! ## Witnesses: states that meet the statements' hypotheses, clause by clause -/

/-- A command row in width 8 with nothing in flight. -/
theorem ready {b : Byte} {s : State} (h : s.inReset = false) (hl : s.port.lowRead = none) (hw : s.port.width = .eight)
    (hc : s.cmd = none) : CommandReady b s := ⟨⟨h, hl, .inl hw⟩, hc⟩

/-- A phrase that may be absent is DEFINED where it is present. -/
theorem optDefined {s : State} {v : Option Nat} (h : (v.all fun n => (s.phrase n).state == .defined) = true) :
    OptPhraseDefined s v := by
  intro n hn
  subst hn
  simpa [PhraseDefined] using h

/-- The first `n` slots occupied, slot `k` by key `k + 1`. -/
def full (n : Nat) : State :=
  { live with dir := { isOpen := true, order := (List.range n).map fun k => { entryOf rec805 k with key := k + 1 } } }

/-- A command in flight, with nothing else changed. -/
def busy (s : State) : State := s.setCmd (some (.storeState .clearing .A))

theorem witness_stepRunsFrontCommand :
    (State.reset.withPending [.keepalive]).pending = .keepalive :: [] ∧ State.reset.pending = [] := ⟨rfl, rfl⟩

theorem witness_resets : (State.reset.setInReset true).inReset = true ∧ combined.inReset = false ∧
    combined.params.resetLinks ≠ 0 ∧
    ∀ n : Fin 4, combined.params.resetLinks.getLsbD n = true → (combined.link n).holdTimer = 3 := by decide

theorem witness_restart :
    (CommandReady 0x3F running ∧ ∀ v e, running.composer.work ≠ .candidate v e) ∧
    (CommandReady 0x3F composing ∧ composing.composer.work = .candidate 0 (entryOf rec805 0) ∧
      composing.grantOf .composer ≠ none) ∧
    (let s := composing.setArb { composing.arb with held := none }
     CommandReady 0x3F s ∧ s.composer.work = .candidate 0 (entryOf rec805 0) ∧ s.grantOf .composer = none) ∧
    (CommandReady 0x3F taken ∧ (∀ v e, taken.composer.work ≠ .candidate v e) ∧ taken.composer.work ≠ .draining) ∧
    (composing.setComposing .draining).composer.work = .draining :=
  ⟨⟨ready rfl rfl rfl rfl, fun _ _ h => nomatch h⟩, ⟨ready rfl rfl rfl rfl, rfl, by decide⟩,
    ⟨ready rfl rfl rfl rfl, rfl, rfl⟩, ⟨ready rfl rfl rfl rfl, fun _ _ h => (nomatch h), by decide⟩, rfl⟩

theorem witness_portBytes : CommandReady (pointerByte 0) live ∧ CommandReady (pointerByte 0x7F) live ∧
    CommandReady 0x40 live ∧ CommandReady 0x41 live ∧
    ((Instr.badCommand 0x00).wellFormed = true ∧ CommandReady 0x00 live) ∧
    ((Instr.badCommand 0x7F).wellFormed = true ∧ CommandReady 0x7F live) :=
  ⟨ready rfl rfl rfl rfl, ready rfl rfl rfl rfl, ready rfl rfl rfl rfl, ready rfl rfl rfl rfl,
    ⟨by decide, ready rfl rfl rfl rfl⟩, ⟨by decide, ready rfl rfl rfl rfl⟩⟩

theorem witness_overrun :
    (commandByteOf .add = some 0x01 ∧ WriteReady false 0x01 (busy State.reset) ∧ (busy State.reset).cmd ≠ none) ∧
    (commandByteOf (.pointer 0x7F) = some 0xFF ∧
      WriteReady false 0xFF (busy (four (some { sel := false, half := .write 0xF }))) ∧
      (busy (four (some { sel := false, half := .write 0xF }))).cmd ≠ none) :=
  ⟨⟨rfl, ⟨rfl, rfl, .inl rfl⟩, by decide⟩, ⟨by decide, ⟨rfl, rfl, .inr ⟨rfl, by decide⟩⟩, by decide⟩⟩

theorem witness_staging : (WriteReady true 0xFF State.reset ∧ State.reset.cmd = none) ∧
    (WriteReady true 0xFF (busy State.reset) ∧ (busy State.reset).cmd ≠ none ∧ (busy State.reset).inReset = false ∧
      (busy State.reset).port.lowRead = none ∧ (busy State.reset).port.width = .eight) :=
  ⟨⟨⟨rfl, rfl, .inl rfl⟩, rfl⟩, ⟨⟨rfl, rfl, .inl rfl⟩, by decide, rfl, rfl, rfl⟩⟩

theorem witness_statusRead : live.inReset = false ∧ live.port.lowRead = none ∧ live.port.width = .eight :=
  ⟨rfl, rfl, rfl⟩

theorem witness_readRise :
    (lowRead { sel := true, byte := 9, busy := false } live).port.lowRead =
      some { sel := true, byte := 9, busy := false } ∧
    (lowRead { sel := true, byte := 0, busy := true } live).port.lowRead =
      some { sel := true, byte := 0, busy := true } ∧
    (lowRead { sel := false, byte := 0xC0, busy := true } live).port.lowRead =
      some { sel := false, byte := 0xC0, busy := true } := ⟨rfl, rfl, rfl⟩

theorem witness_pendingNibble :
    ((four none).inReset = false ∧ (four none).port.lowRead = none ∧ (four none).port.width = .four ∧
      (four none).port.pendingNibble = none) ∧
    (∀ p, (four (some { sel := true, half := .write 3 })).port.pendingNibble = some p →
      ¬ (p.sel = true ∧ p.half.rw = true)) := by
  refine ⟨⟨rfl, rfl, rfl, rfl⟩, ?_⟩
  intro p hp
  injection hp with hp
  subst hp
  decide

theorem witness_secondNibble :
    (four (some { sel := false, half := .read 0xC1 true })).port.pendingNibble =
      some { sel := false, half := .read 0xC1 true } ∧
    (four (some { sel := true, half := .read 7 false })).port.pendingNibble =
      some { sel := true, half := .read 7 false } ∧
    (four (some { sel := true, half := .read 0 true })).port.pendingNibble =
      some { sel := true, half := .read 0 true } := ⟨rfl, rfl, rfl⟩

theorem witness_keepalive : CommandReady 0x1A live ∧ WriteReady false 0x1A (busy live) ∧ (busy live).cmd ≠ none :=
  ⟨ready rfl rfl rfl rfl, ⟨rfl, rfl, .inl rfl⟩, by decide⟩

/-! ### Record commands -/

theorem witness_add_slot0 :
    let s := stage (input 65535 2879 0 63 0 63 1 31 0) (full 0)
    CommandReady 0x01 s ∧ s.serving = true ∧ s.dir.isOpen = true ∧ AddFieldsInRange s ∧
      PhraseDefined s s.stagedBody.destination ∧ OptPhraseDefined s s.stagedBody.via ∧
      (∀ e ∈ s.dir.order, e.key ≠ s.stagedKey) ∧ (∀ e ∈ s.dir.order, e.slot ≠ 0) :=
  ⟨ready rfl rfl rfl rfl, rfl, rfl, (addInRange_iff _).mp (by decide), by unfold PhraseDefined; decide,
    optDefined (by decide), by decide, by decide⟩

theorem witness_add_slot255 :
    let s := stage (input 600 0 0 0 0 1 0 1 0) (full 255)
    (∀ e ∈ s.dir.order, e.key ≠ s.stagedKey) ∧ (∀ e ∈ s.dir.order, e.slot ≠ 255) ∧
      ∀ m < 255, ∃ e ∈ s.dir.order, e.slot = m := by
  have hk : (stage (input 600 0 0 0 0 1 0 1 0) (full 255)).stagedKey = 600 := by decide
  refine ⟨?_, ?_, ?_⟩
  · rw [hk]
    intro e he
    obtain ⟨k, hr, rfl⟩ := List.mem_map.mp he
    have := List.mem_range.mp hr
    show k + 1 ≠ 600
    omega
  · intro e he
    obtain ⟨k, hr, rfl⟩ := List.mem_map.mp he
    exact Nat.ne_of_lt (List.mem_range.mp hr)
  · intro m hm
    exact ⟨_, List.mem_map.mpr ⟨m, List.mem_range.mpr hm, rfl⟩, rfl⟩

/-- A staged ADD of key 42 that names a destination and a via. -/
def adding (destination via : Nat) : State := stage (input 42 1000 0 0 0 destination via 1 0) live

theorem witness_addTests :
    State.reset.serving = false ∧
    ((adding 64 0).serving = true ∧ ¬ AddFieldsInRange (adding 64 0)) ∧
    ((adding 4 0).serving = true ∧ AddFieldsInRange (adding 4 0) ∧ ((adding 4 0).phrase 4).state = .free) ∧
    ((adding 2 0).serving = true ∧ AddFieldsInRange (adding 2 0) ∧ ((adding 2 0).phrase 2).state = .retiring) ∧
    (PhraseDefined (adding 1 4) 1 ∧ AddFieldsInRange (adding 1 4) ∧ (adding 1 4).stagedBody.via = some 4 ∧
      ((adding 1 4).phrase 4).state = .free) ∧
    (PhraseDefined (adding 1 2) 1 ∧ AddFieldsInRange (adding 1 2) ∧ (adding 1 2).stagedBody.via = some 2 ∧
      ((adding 1 2).phrase 2).state = .retiring) :=
  ⟨rfl, ⟨rfl, fun h => absurd ((addInRange_iff _).mpr h) (by decide)⟩,
    ⟨rfl, (addInRange_iff _).mp (by decide), by decide⟩, ⟨rfl, (addInRange_iff _).mp (by decide), by decide⟩,
    ⟨by unfold PhraseDefined; decide, (addInRange_iff _).mp (by decide), by decide, by decide⟩,
    ⟨by unfold PhraseDefined; decide, (addInRange_iff _).mp (by decide), by decide, by decide⟩⟩

theorem witness_addTests_key :
    (∃ e ∈ (stage (input 805 1000 0 0 0 1 0 1 0) live).dir.order,
      e.key = (stage (input 805 1000 0 0 0 1 0 1 0) live).stagedKey) ∧
    ∀ m < 256, ∃ e ∈ (full 256).dir.order, e.slot = m :=
  ⟨by decide, fun m hm => ⟨_, List.mem_map.mpr ⟨m, List.mem_range.mpr hm, rfl⟩, rfl⟩⟩

theorem witness_addGrant :
    let s := serves (.add 42 255) (adding 63 1)
    GrantBegun .command (some 255) 42 s ∧ s.cmd = some (.add 42 255) ∧ s.serving = true ∧ s.dir.isOpen = true ∧
      WriteHolds s 255 ∧ (∀ e ∈ s.dir.order, e.key ≠ s.stagedKey) ∧ (∀ e ∈ s.dir.order, e.slot ≠ 255) :=
  ⟨⟨rfl, rfl, rfl⟩, rfl, rfl, rfl, by unfold WriteHolds; decide, by decide, by decide⟩

/-- A staged AMEND of key 805 with a mask, a platform, a destination and a via. -/
def amending (platform destination via mask : Nat) : State :=
  stage (input 805 0 0 platform 2 destination via 1 mask) live

theorem witness_amendTests :
    (amending 0 0 0 0).place 15 = 0 ∧ ¬ AmendFieldsInRange (amending 64 0 0 4) ∧
    (AmendFieldsInRange (amending 0 4 0 32) ∧ (amending 0 4 0 32).selects .destination = true ∧
      ((amending 0 4 0 32).phrase 4).state = .free) ∧
    ((amending 0 2 0 32).selects .destination = true ∧ ((amending 0 2 0 32).phrase 2).state = .retiring) ∧
    (AmendFieldsInRange (amending 0 0 4 64) ∧ (amending 0 0 4 64).selects .via = true ∧
      (amending 0 0 4 64).stagedBody.via = some 4 ∧ ((amending 0 0 4 64).phrase 4).state = .free) ∧
    ((amending 0 0 2 64).stagedBody.via = some 2 ∧ ((amending 0 0 2 64).phrase 2).state = .retiring) :=
  ⟨by decide, fun h => absurd ((amendInRange_iff _).mpr h) (by decide),
    ⟨(amendInRange_iff _).mp (by decide), by decide, by decide⟩, ⟨by decide, by decide⟩,
    ⟨(amendInRange_iff _).mp (by decide), by decide, by decide, by decide⟩, ⟨by decide, by decide⟩⟩

theorem witness_amendTests_record :
    (∀ e ∈ (stage (input 804 0 0 0 0 0 0 0 16) live).dir.order,
      e.key ≠ (stage (input 804 0 0 0 0 0 0 0 16) live).stagedKey) ∧
    (let s := stage (input 805 0 0 0 1 0 0 0 8) (holds { rec805 with status := .departed } .single)
     ((s.dir.order.find? fun x => x.key == s.stagedKey) = some (entryOf { rec805 with status := .departed } 0) ∧
      s.selects .status = true)) := by decide

theorem witness_amend :
    let s := amending 63 63 1 0xFF
    CommandReady 0x02 s ∧ s.serving = true ∧ s.dir.isOpen = true ∧ s.place 15 ≠ 0 ∧ AmendFieldsInRange s ∧
      PhraseDefined s s.stagedBody.destination ∧ OptPhraseDefined s s.stagedBody.via ∧
      (s.dir.order.find? fun x => x.key == s.stagedKey) = some (entryOf rec805 0) ∧
      (entryOf rec805 0).status ≠ .departed :=
  ⟨ready rfl rfl rfl rfl, rfl, rfl, by decide, (amendInRange_iff _).mp (by decide), by unfold PhraseDefined; decide,
    optDefined (by decide), by decide, by decide⟩

theorem witness_amendGrant :
    let s := serves (.amend 805 0 0) (amending 7 0 0 4)
    GrantBegun .command (some 0) 805 s ∧ s.cmd = some (.amend 805 0 0) ∧ s.serving = true ∧ s.dir.isOpen = true ∧
      WriteHolds s 0 ∧ PrimaryHolds s 0 rec805 ∧
      (s.dir.order.find? fun x => x.key == 805 && x.slot == 0) = some (entryOf rec805 0) :=
  ⟨⟨rfl, rfl, rfl⟩, rfl, rfl, rfl, by unfold WriteHolds; decide, ⟨by decide, by decide⟩, by decide⟩

theorem witness_amendMask :
    (∀ bit : Fin 8, (amending 63 63 1 0xFF).placeBit 15 bit = true ∧ (amending 63 63 1 0).placeBit 15 bit = false) ∧
      ((stage [0, 0, 0, 0, 0x8B, 0x3F] live).placeBit 4 7 = true ∧ (stage [] live).placeBit 4 7 = false) ∧
      (amending 0 0 0 0xFF).place 10 = 1 := by decide

theorem witness_retire :
    CommandReady 0x03 (stage [3, 37] live) ∧ (stage [3, 37] live).serving = true ∧
      (stage [3, 37] live).dir.isOpen = true ∧
      ((stage [3, 37] live).dir.order.find? fun x => x.key == (stage [3, 37] live).stagedKey) =
        some (entryOf rec805 0) := ⟨ready rfl rfl rfl rfl, rfl, rfl, by decide⟩

theorem witness_retire_remove :
    ((retiring 805 0 0 live).inReset = false ∧ (retiring 805 0 0 live).cmd = some (.retire 805 0 0) ∧
      (retiring 805 0 0 live).dir.isOpen = true ∧
      ((retiring 805 0 0 live).dir.order.find? fun x => x.key == 805 && x.slot == 0) = some (entryOf rec805 0)) ∧
    (∀ y ∈ (retiring 805 1 0 live).dir.order, ¬ (y.key = 805 ∧ y.slot = 1)) ∧
    (retiring 805 0 0 State.reset).dir.isOpen = false ∧ ∀ key slot rank, live.cmd ≠ some (.retire key slot rank) :=
  ⟨by decide, by decide, rfl, fun _ _ _ h => nomatch h⟩

theorem witness_fetchCommands :
    (CommandReady 0x05 live ∧ live.dir.order[live.word 18]? = some (entryOf rec805 0)) ∧
    (let s := stage [3, 36, 4, 61] live
     CommandReady 0x06 s ∧ s.word 2 ≤ 2879 ∧
      (s.dir.order.find? fun x => posBefore { time := s.word 2, key := s.word 0 } (entryPos x)) =
        some (entryOf rec805 0)) :=
  ⟨⟨ready rfl rfl rfl rfl, by decide⟩, ready rfl rfl rfl rfl, by decide, by decide⟩

theorem witness_fetchGrant :
    let s := serves (.fetch (.byRank 0) 805 0 0) live
    GrantBegun .command (some 0) 805 s ∧ s.cmd = some (.fetch (.byRank 0) 805 0 0) ∧ s.serving = true ∧
      s.dir.isOpen = true ∧ PrimaryHolds s 0 rec805 ∧
      (s.dir.order.find? fun x => x.key == 805 && x.slot == 0) = some (entryOf rec805 0) :=
  ⟨⟨rfl, rfl, rfl⟩, rfl, rfl, rfl, ⟨by decide, by decide⟩, by decide⟩

theorem witness_refused_records :
    (CommandReady 0x02 State.reset ∧ State.reset.serving = false) ∧
    (live.serving = true ∧ live.dir.isOpen = true ∧ ∀ e ∈ (stage [3, 36] live).dir.order,
      e.key ≠ (stage [3, 36] live).stagedKey) ∧
    (live.dir.order.length ≤ (stage (List.replicate 19 0 ++ [1]) live).word 18) ∧
    2879 < (stage [0, 0, 11, 64] live).word 2 ∧
    (let s := stage [3, 37, 4, 61] live
     s.word 2 ≤ 2879 ∧ ∀ e ∈ s.dir.order, posBefore { time := s.word 2, key := s.word 0 } (entryPos e) = false) :=
  ⟨⟨ready rfl rfl rfl rfl, rfl⟩, by decide, by decide, by decide, by decide⟩

theorem witness_refused_phrases :
    (stage [0] live).place 0 = 0 ∧ 63 < (stage [64] live).place 0 ∧
    ((stage [63, 0, 0, 0, 25] live).place 0 ≤ 63 ∧ 24 < (stage [63, 0, 0, 0, 25] live).place 4) ∧
    (∃ c ∈ (stage [1, 0, 0, 0, 1, 0x7F] live).stagedText, c < 0x20 ∨ 0x7E < c) ∧
    (let s := stage [2, 0, 0, 0, 24] live
     s.place 4 ≤ 24 ∧ (s.phrase (s.place 0)).state = .retiring) ∧
    (let s := stage [2, 0, 0, 0, 1, 0x7E] live
     1 ≤ s.place 4 ∧ s.place 4 ≤ 24 ∧ (∀ c ∈ s.stagedText, 0x20 ≤ c ∧ c ≤ 0x7E) ∧
      (s.phrase (s.place 0)).state = .retiring) ∧
    ((stage [62] live).phrase ((stage [62] live).place 0)).state = .free := by decide

theorem witness_refused_views :
    3 < (stage [4] live).place 0 ∧
    ((stage [3, 1, 63, 0, 16, 0, 1, 0, 1, 1] live).place 0 ≤ 3 ∧
      (stage [3, 1, 63, 0, 16, 0, 1, 0, 1, 1] live).place 4 % 16 = 0) ∧
    16 < (stage (List.replicate 17 0 ++ [17]) live).place 17 ∧ (stage [3] live).place 17 = 0 ∧
    2 < (stage [1, 255, 3] live).place 2 ∧
    (let s := stage [5, 0, 4] live
     s.place 0 = 5 ∧ 1 ≤ s.word 1 ∧ s.word 1 ≤ 63 ∧ s.word 1 ≠ s.params.noticePhrase ∧
      (s.phrase (s.word 1)).state = .free) := by decide

theorem witness_failedGrants :
    (GrantBegun .command (some 0) 805 (serves (.amend 805 0 0) State.reset) ∧
      (serves (.amend 805 0 0) State.reset).serving = false) ∧
    (let s := serves (.amend 805 0 0) (unreadable live)
     GrantBegun .command (some 0) 805 s ∧ s.serving = true ∧ s.dir.isOpen = true ∧ Unreadable s 0 ∧
      (s.dir.order.find? fun y => y.key == 805 && y.slot == 0) = some (entryOf rec805 0)) ∧
    (let s := serves (.fetch (.byRank 0) 804 0 0) (unreadable live)
     GrantBegun .command (some 0) 804 s ∧ Unreadable s 0 ∧ (∀ y ∈ s.dir.order, ¬ (y.key = 804 ∧ y.slot = 0)) ∧
      s.dir.order[0]? = some (entryOf rec805 0) ∧ s.dir.order[1]? = none) ∧
    (let s := serves (.add 42 0) ((holds rec805 .single).setCopy .A 0 { goodCopy rec805 with stuck := true })
     GrantBegun .command (some 0) 42 s ∧ s.store.state = .single ∧ (s.copy s.store.primary 0).stuck = true) ∧
    (let s := serves (.add 42 0) ((holds rec805 .rebuilding).setCopy .A 0 { goodCopy rec805 with stuck := true })
     GrantBegun .command (some 0) 42 s ∧ s.store.state = .rebuilding ∧ s.store.rebuildCursor ≤ 0 ∧
      (s.copy s.store.primary 0).stuck = true ∧ s.cmd = some (.add 42 0)) :=
  ⟨⟨⟨rfl, rfl, rfl⟩, rfl⟩, ⟨⟨rfl, rfl, rfl⟩, rfl, rfl, by unfold Unreadable; decide, by decide⟩,
    ⟨⟨rfl, rfl, rfl⟩, by unfold Unreadable; decide, by decide, by decide, by decide⟩,
    ⟨⟨rfl, rfl, rfl⟩, rfl, by decide⟩, ⟨rfl, rfl, rfl⟩, rfl, by decide, by decide, rfl⟩

/-- A store whose primary copy of slot 0 is CORRECTABLE, its location stuck or not. -/
def correctable (st : StoreState) (stuck : Bool) : State :=
  (holds rec805 st).setCopy .A 0 { goodCopy rec805 with check := .correctable, stuck := stuck }

/-- The store with the location of slot 0 in a bank stuck. -/
def stuckIn (b : Bank) (s : State) : State := s.setCopy b 0 { s.copy b 0 with stuck := true }

theorem witness_failedGrants_attempts :
    (GrantBegun .command (some 0) 804 (leftBehind (.byKey 804)) ∧ Unreadable (leftBehind (.byKey 804)) 0 ∧
      (leftBehind (.byKey 804)).cmd = some (.fetch (.byKey 804) 804 0 0)) ∧
    (let s := serves (.fetch (.byRank 1) 804 0 0) live
     GrantBegun .command (some 0) 804 s ∧ PrimaryHolds s 0 rec805 ∧
      (∀ y ∈ s.dir.order, ¬ (y.key = 804 ∧ y.slot = 0)) ∧ FindAnswers (.byRank 1) s none .noSuchRank) ∧
    (let how : Find := .after { time := 1085, key := 804 }
     let s := serves (.fetch how 804 0 0) live
     FindAnswers how s (some (entryOf rec805 0)) .endOfOrder) ∧
    (attemptDue.inReset = false ∧ attemptDue.cmd = some (.refetch (.byRank 0) 804 0) ∧
      attemptDue.dir.isOpen = true ∧ FindAnswers (.byRank 0) attemptDue (some (entryOf rec805 0)) .noSuchRank) ∧
    (attemptDue.setStore StoreController.reset |> emptyDirectory).dir.isOpen = false :=
  ⟨⟨⟨rfl, rfl, rfl⟩, by unfold Unreadable; decide, rfl⟩,
    ⟨⟨rfl, rfl, rfl⟩, ⟨by decide, by decide⟩, by decide, .inl ⟨1, rfl, by decide, rfl⟩⟩,
    .inr ⟨_, rfl, by decide, rfl⟩, ⟨rfl, by decide, rfl, .inl ⟨0, rfl, by decide, rfl⟩⟩, rfl⟩

theorem witness_failedGrants_store :
    (let s := serves (.amend 805 0 0) (stuckIn .A (holds rec805 .rebuilding))
     GrantBegun .command (some 0) 805 s ∧ s.store.state = .rebuilding ∧ s.store.rebuildCursor ≤ 0 ∧
      PrimaryHolds s 0 rec805 ∧ (s.copy s.store.primary 0).stuck = true) ∧
    (let s := serves (.fetch (.byKey 805) 805 0 0) (correctable .degraded true)
     GrantBegun .command (some 0) 805 s ∧ s.store.state = .degraded ∧
      (s.copy s.store.primary 0).check = .correctable ∧ (s.copy s.store.primary 0).stuck = true) :=
  ⟨⟨⟨rfl, rfl, rfl⟩, rfl, by decide, ⟨by decide, by decide⟩, by decide⟩, ⟨rfl, rfl, rfl⟩, rfl, by decide, by decide⟩

/-! ### Phrases, views, composer -/

theorem witness_phraseCommands :
    (let s := stage ([63, 0, 0, 0, 24] ++ List.replicate 24 0x20) live
     CommandReady 0x08 s ∧ 1 ≤ s.place 0 ∧ s.place 0 ≤ 63 ∧ 1 ≤ s.place 4 ∧ s.place 4 ≤ 24 ∧
      (∀ c ∈ s.stagedText, 0x20 ≤ c ∧ c ≤ 0x7E) ∧ (s.phrase 63).state ≠ .retiring) ∧
    ((live.phrase 63).state = .defined ∧ (live.phrase 63).count = 0) ∧
    ((live.phrase 1).state = .defined ∧ (live.phrase 1).count ≠ 0) ∧ (live.phrase 2).state = .retiring :=
  ⟨⟨ready rfl rfl rfl rfl, by decide, by decide, by decide, by decide, by decide, by decide⟩, by decide, by decide,
    by decide⟩

theorem witness_references :
    (live.phrase 1).state = .defined ∧ ((live.phrase 3).state = .retiring ∧ 2 ≤ (live.phrase 3).count) ∧
      ((live.phrase 2).state = .retiring ∧ (live.phrase 2).count = 1) ∧ (live.phrase 63).state = .defined := by decide

theorem witness_moveReferences :
    let old : Entry := { entryOf rec805 0 with destination := 3, via := some 3 }
    let less : Entry := { entryOf rec805 0 with destination := 1, via := some 3 }
    let new : Entry := { entryOf rec805 0 with destination := 1, via := none }
    (old.destination ≠ less.destination ∧ old.via = less.via) ∧
      (less.destination = new.destination ∧ less.via ≠ new.via) ∧
      (old.destination ≠ new.destination ∧ old.via ≠ new.via) ∧ (live.phrase 1).state = .defined ∧
      (live.phrase 3).state = .retiring ∧ (live.phrase 3).count = 2 := by decide

theorem witness_filter : (∀ p, (entryOf { rec805 with platform := some 63 } 0).platform = some p → 1 ≤ p ∧ p ≤ 63) ∧
    ∀ p, (entryOf rec912 0).platform = some p → 1 ≤ p ∧ p ≤ 63 := by
  refine ⟨fun p h => ?_, fun p h => ?_⟩
  · injection h with h
    omega
  · exact nomatch h

theorem witness_viewConfiguration :
    (let s := stage [3, 1, 63, 0, 15, 255, 16, 2, 60, 255] live
     s.place 0 = (3 : Fin 4).val ∧ s.place 4 % 16 ≠ 0 ∧ s.place 6 ≤ 16 ∧ s.place 7 = ViewMode.code .stepped ∧
      s.place 8 ≤ 60 ∧ 1 ≤ s.place 9 ∧ (s.view 3).state = .idle) ∧
    (stage [0, 63, 1, 0, 1, 0, 1, 0, 1, 1] live).place 7 = ViewMode.code .onePass ∧
    ((withView 0 { View.reset with state := .halted } live).view 0).state = .halted ∧
    ¬ ((running.view 0).state = .idle ∨ (running.view 0).state = .halted) ∧
    (let s := stage ([0] ++ List.replicate 15 0 ++ [1, 16]) live
     s.place 16 ≤ 1 ∧ 1 ≤ s.place 17 ∧ s.place 17 ≤ 16 ∧ (s.view 0).config.offset < 256) := by decide

theorem witness_passStart :
    let s (k : Nat) := withView 0 { View.reset with state := .resting, refreshTimer := some k } live
    (s 1).inReset = false ∧ ((s 1).view 0).state = .resting ∧ ((s 1).view 0).refreshTimer = some 1 ∧
      ((s 0).view 0).refreshTimer = some 0 := by decide

theorem witness_startAndStop :
    (CommandReady 0x11 (stage [3] live) ∧ (stage [3] live).place 0 = (3 : Fin 4).val) ∧
    (let s := stage [0] (withView 0 { View.reset with state := .halted } live)
     s.place 0 = (0 : Fin 4).val ∧ (s.view 0).state = .halted) ∧
    (CommandReady 0x12 (stage [0] running) ∧ ((stage [0] running).view 0).state ≠ .halted) ∧
    3 < (stage [4] live).place 0 :=
  ⟨⟨ready rfl rfl rfl rfl, by decide⟩, by decide, ⟨ready rfl rfl rfl rfl, by decide⟩, by decide⟩

/-- Each case of an abandoned composition (R92), for a view whose link awaits a TAKE. -/
theorem witness_abandoned :
    let l : Link := (awaiting none).link 0
    let ungranted := composing.setArb
      { composing.arb with held := none, waiting := { composing.arb.waiting with composer := true } }
    ¬ ComposingFor 0 (withLink 0 l running) ∧
    ((withLink 0 l taken).composer.work = .taken 0 ∧ ((withLink 0 l taken).link 0).state = .awaitTake) ∧
    (∃ e, (withLink 0 l ungranted).composer.work = .candidate 0 e ∧ (withLink 0 l ungranted).grantOf .composer = none) ∧
    ∃ e, (withLink 0 l composing).composer.work = .candidate 0 e ∧ (withLink 0 l composing).grantOf .composer ≠ none := by
  refine ⟨?_, by decide, ⟨_, rfl, rfl⟩, _, rfl, by decide⟩
  rintro (h | h | ⟨e, h⟩) <;> exact nomatch h

theorem witness_nextToCompose : NextToCompose 0 running := by unfold NextToCompose; decide

theorem witness_compositionStart :
    ((running.view 0).noticeDue = false ∧ (running.view 0).searchEnded = false ∧ (running.view 0).skip = 0 ∧
      (running.view 0).wrapped = .no ∧
      (running.entries.find? fun x => posBefore (running.view 0).cursor (entryPos x) &&
        passesFilter (running.view 0).config x) = some (entryOf rec805 0)) ∧
    (let s := withView 0 { View.reset with state := .running, searchEnded := true } live
     NextToCompose 0 s ∧ (s.view 0).searchEnded = true ∧ (s.link 0).slot = none) ∧
    (taken.inReset = false ∧ taken.composer.work = .taken 0 ∧ (taken.view 0).noticeDue = false ∧
      (taken.view 0).searchEnded = false) := by
  unfold NextToCompose; decide

theorem witness_composerGrant :
    GrantBegun .composer (some 0) 805 composing ∧ composing.composer.work = .candidate 0 (entryOf rec805 0) ∧
      composing.serving = true ∧ PrimaryHolds composing 0 rec805 ∧
      (composing.entries.find? fun x => x.key == 805) = some (entryOf rec805 0) ∧ (composing.link 0).slot = none :=
  ⟨⟨rfl, rfl, rfl⟩, rfl, rfl, ⟨by decide, by decide⟩, by decide, by decide⟩

/-- A search for view 0 in the live store, with the view given. -/
def searching (w : View) : State := (withView 0 w live).setComposer { work := .searching 0, lastServed := 0 }

/-- The position of the live record. -/
def at805 : Position := { time := 1085, key := 805 }

theorem witness_searchClaims :
    let found (w : View) := (searching w).entries.find? fun x =>
      posBefore w.cursor (entryPos x) && passesFilter w.config x
    let beyond (w : View) (e : Entry) := ∃ limit, w.wrapped = .yes (some limit) ∧
      ¬ (e.effective < limit.time ∨ (e.effective = limit.time ∧ e.key < limit.key))
    let limited : View := { View.reset with wrapped := .yes (some at805) }
    let below : View := { View.reset with wrapped := .yes (some { time := 1085, key := 806 }), skip := 1 }
    (found limited = some (entryOf rec805 0) ∧ beyond limited (entryOf rec805 0)) ∧
      (found below = some (entryOf rec805 0) ∧ ¬ beyond below (entryOf rec805 0) ∧ 1 ≤ below.skip) ∧
      (found View.reset = some (entryOf rec805 0) ∧ ¬ beyond View.reset (entryOf rec805 0) ∧ View.reset.skip = 0) ∧
      found { View.reset with cursor := at805 } = none := by
  refine ⟨⟨by decide, at805, rfl, by decide⟩, ⟨by decide, ?_, by decide⟩, ⟨by decide, ?_, rfl⟩, by decide⟩
  · rintro ⟨limit, h, hn⟩
    injection h with h
    injection h with h
    subst h
    exact hn (by decide)
  · rintro ⟨limit, h, _⟩
    exact nomatch h

theorem witness_searchGrants :
    (let s := composing.setOrder [{ entryOf rec805 0 with platform := none }]
     GrantBegun .composer (some 0) 805 s ∧ s.serving = true ∧ PrimaryHolds s 0 rec805 ∧
      ∀ x, (s.entries.find? fun x => x.key == 805) = some x → x.platform ≠ (entryOf rec805 0).platform) ∧
    (composing.setOrder []).entries = [] ∧
    (composing.setStore { composing.store with state := .failed }).serving = false ∧
    (Unreadable (unreadable composing) 0 ∧
      ((unreadable composing).dir.order.find? fun y => y.key == 805 && y.slot == 0) = some (entryOf rec805 0)) ∧
    (let s := granted .composer (some 0) 805
       ((correctable .rebuilding true).setComposer { work := .candidate 0 (entryOf rec805 0), lastServed := 0 })
     GrantBegun .composer (some 0) 805 s ∧ s.store.state = .rebuilding ∧
      (s.copy s.store.primary 0).check = .correctable ∧ (s.copy s.store.primary 0).stuck = true) := by
  refine ⟨⟨⟨rfl, rfl, rfl⟩, rfl, ⟨by decide, by decide⟩, fun x h => ?_⟩, by decide, by decide,
    ⟨by unfold Unreadable; decide, by decide⟩, ⟨rfl, rfl, rfl⟩, rfl, by decide, by decide⟩
  have h' : some { entryOf rec805 0 with platform := none } = some x := h
  injection h' with h'
  subst h'
  decide

theorem witness_placement :
    let due (a : Nat) := (withView 0 { View.reset with state := .running, noticeDue := true } live).setParams
      { Params.reset with staleAction := a, noticePhrase := 1 }
    (live.link 0).slot = none ∧ ((awaiting none).link 0).slot ≠ none ∧
      (NextToCompose 0 (due 1) ∧ ((due 1).view 0).noticeDue = true ∧ (due 1).params.staleAction = 1 ∧
        (due 1).params.noticePhrase ≠ 0) ∧
      (NextToCompose 0 (due 0) ∧ (due 0).params.staleAction ≠ 1) ∧
      (let s (a : Nat) := (due a).setComposer { work := .taken 0, lastServed := 0 }
       (s 1).composer.work = .taken 0 ∧ ((s 1).view 0).noticeDue = true ∧ (s 1).params.staleAction = 1 ∧
         (s 0).params.staleAction ≠ 1) ∧
      ((taken.setView 0 { View.reset with searchEnded := true }).view 0).searchEnded = true := by
  unfold NextToCompose; decide

/-! ### Clock, retirement, ticks -/

theorem witness_clockCommands :
    CommandReady 0x18 live ∧ (stage [11, 63] live).word 0 ≤ 2879 ∧ 2879 < (stage [11, 64] live).word 0 ∧
    State.reset.clock.isSet = false ∧ (live.clock.isSet = true ∧ 1440 ≤ live.clock.minute) ∧
    (rebasing.clock.isSet = true ∧ rebasing.clock.minute < 1440) :=
  ⟨ready rfl rfl rfl rfl, by decide, by decide, by decide, by decide, by decide⟩

theorem witness_newDayVisits :
    ((inDay rec805 day).cmd = some (.newDay day) ∧ day.rebase = none ∧
      ((inDay rec805 day).entries.find? fun x => posBefore day.visit (entryPos x)) = some (entryOf rec805 0) ∧
      (entryOf rec805 0).effective < 1440) ∧
    (let r : RecordBody := { rec805 with scheduled := 1440 }
     ((inDay r day).entries.find? fun x => posBefore day.visit (entryPos x)) = some (entryOf r 0) ∧
      1440 ≤ (entryOf r 0).effective) ∧
    ((inDay rec805 { day with visit := { time := 1085, key := 805 } }).entries.find? fun x =>
      posBefore { time := 1085, key := 805 } (entryPos x)) = none := by decide

theorem witness_rebaseGrant :
    GrantBegun .command (some 0) 912 rebasing ∧
      rebasing.cmd = some (.newDay { day with visit := { time := 1465, key := 912 }, rebase := some (912, 0) }) ∧
      rebasing.serving = true ∧ rebasing.dir.isOpen = true ∧ WriteHolds rebasing 0 ∧ PrimaryHolds rebasing 0 rec912 ∧
      (rebasing.dir.order.find? fun x => x.key == 912 && x.slot == 0) = some (entryOf rec912 0) ∧
      (rec912.expected = some 1465 ∧ rec912.scheduled < 1440) ∧
      (1440 ≤ { rec912 with scheduled := 1440 }.scheduled ∧ { rec912 with expected := none }.expected = none) :=
  ⟨⟨rfl, rfl, rfl⟩, rfl, rfl, rfl, by unfold WriteHolds; decide, ⟨by decide, by decide⟩, by decide, by decide,
    by decide⟩

theorem witness_rebaseOutcomes :
    let d : NewDay := { day with visit := { time := 1465, key := 912 }, rebase := some (912, 0) }
    let failed := rebasing.setStore { rebasing.store with state := .failed }
    let gone := rebasing.setOrder []
    let single := stuckIn .A (rebasing.setStore { rebasing.store with state := .single })
    (GrantBegun .command (some 0) 912 failed ∧ failed.cmd = some (.newDay d) ∧ d.rebase = some (912, 0) ∧
      failed.serving = false) ∧
    (GrantBegun .command (some 0) 912 (unreadable rebasing) ∧ Unreadable (unreadable rebasing) 0 ∧
      ((unreadable rebasing).dir.order.find? fun y => y.key == 912 && y.slot == 0) = some (entryOf rec912 0) ∧
      Unreadable (unreadable gone) 0 ∧ ∀ y ∈ (unreadable gone).dir.order, ¬ (y.key = 912 ∧ y.slot = 0)) ∧
    (single.store.state = .single ∧ (single.copy .A 0).check ≠ .uncorrectable ∧ (single.copy .A 0).stuck = true) ∧
    (WriteHolds gone 0 ∧ PrimaryHolds gone 0 rec912 ∧ ∀ y ∈ gone.dir.order, ¬ (y.key = 912 ∧ y.slot = 0)) :=
  ⟨⟨⟨rfl, rfl, rfl⟩, rfl, rfl, rfl⟩,
    ⟨⟨rfl, rfl, rfl⟩, by unfold Unreadable; decide, by decide, by unfold Unreadable; decide, by decide⟩, by decide,
    by unfold WriteHolds; decide, ⟨by decide, by decide⟩, by decide⟩

/-- The rebase grant of key 912 in a store state, with the copies of slot 0 by check condition and stuck mark. -/
def rebasingOn (st : StoreState) (a b : CheckCondition × Bool) (cursor : Nat) : State :=
  let s := rebasing.setStore { rebasing.store with state := st, origin := some .degraded, rebuildCursor := cursor }
  (s.setCopy .A 0 { contents := .body rec912, check := a.1, stuck := a.2 }).setCopy .B 0
    { contents := .body rec912, check := b.1, stuck := b.2 }

theorem witness_rebased :
    RebasedTo rec912 { rec912 with scheduled := 0, expected := some 25, carried := true } true ∧
    RebasedTo { rec912 with scheduled := 1440 } { rec912 with scheduled := 0, expected := some 25 } false ∧
    RebasedTo { rec912 with scheduled := 1440, expected := none } { rec912 with scheduled := 0, expected := none }
      false :=
  ⟨.inr (.inr ⟨1465, rfl, by decide, rfl, rfl⟩), .inr (.inl ⟨1465, rfl, by decide, rfl, rfl⟩), .inl ⟨rfl, rfl, rfl⟩⟩

theorem witness_rebase_answers :
    (∃ r u w, readBody .command 0 912 rebasing = .body r u ∧ writeBody .command 0 r u = .stored w ∧
      w.dir.isOpen = true ∧ (w.dir.order.find? fun x => x.key == 912 && x.slot == 0) = some (entryOf rec912 0)) ∧
    (∃ r u w, readBody .command 0 912 (rebasing.setOrder []) = .body r u ∧ writeBody .command 0 r u = .stored w ∧
      ∀ y ∈ w.dir.order, ¬ (y.key = 912 ∧ y.slot = 0)) ∧
    (∃ r u w, readBody .command 0 912 (rebasingOn .single (.good, true) (.good, false) 0) = .body r u ∧
      writeBody .command 0 r u = .failed w) ∧
    (∃ u, readBody .command 0 912 (rebasingOn .single (.correctable, true) (.good, false) 0) = .failed u) :=
  ⟨⟨_, _, _, rfl, rfl, rfl, by decide⟩, ⟨_, _, _, rfl, rfl, by decide⟩, ⟨_, _, _, rfl, rfl⟩, ⟨_, rfl⟩⟩

theorem witness_rebase_completes :
    (let s := rebasingOn .mirrored (.correctable, false) (.good, false) 0
     GrantBegun .command (some 0) 912 s ∧ s.dir.isOpen = true ∧
      (s.dir.order.find? fun x => x.key == 912 && x.slot == 0) = some (entryOf rec912 0) ∧ s.serving = true ∧
      WriteHolds s 0 ∧ (s.copy .A 0).check = .correctable ∧ (s.copy .A 0).contents = .body rec912) ∧
    (let s := rebasingOn .mirrored (.uncorrectable, false) (.correctable, false) 0
     WriteHolds s 0 ∧ (s.copy .A 0).check = .uncorrectable ∧ (s.copy .B 0).check ≠ .uncorrectable) ∧
    (let s := rebasingOn .mirrored (.good, false) (.uncorrectable, true) 0
     PrimaryHolds s 0 rec912 ∧ (s.copy .B 0).stuck = true ∧ (s.copy .A 0).stuck = false) ∧
    (let s := rebasingOn .mirrored (.uncorrectable, true) (.good, false) 0
     (s.copy .A 0).stuck = true ∧ (s.copy .A 0).check = .uncorrectable ∧ (s.copy .B 0).check ≠ .uncorrectable) ∧
    (let s := rebasingOn .mirrored (.correctable, true) (.good, false) 0
     (s.copy .A 0).stuck = true ∧ (s.copy .B 0).stuck = false) ∧
    (let s := rebasingOn .rebuilding (.good, false) (.good, true) 1
     0 < s.store.rebuildCursor ∧ s.store.origin = some .degraded ∧ PrimaryHolds s 0 rec912 ∧
      (s.copy .A 0).stuck = false ∧ (s.copy .B 0).stuck = true) :=
  ⟨⟨⟨rfl, rfl, rfl⟩, rfl, by decide, rfl, by unfold WriteHolds; decide, by decide, by decide⟩,
    ⟨by unfold WriteHolds; decide, by decide⟩, ⟨⟨by decide, by decide⟩, by decide⟩, by decide, by decide,
    by decide, rfl, ⟨by decide, by decide⟩, by decide⟩

theorem witness_rebase_storeFails :
    (let s := rebasingOn .rebuilding (.correctable, true) (.good, false) 0
     s.store.rebuildCursor ≤ 0 ∧ (s.copy .A 0).check ≠ .uncorrectable ∧ (s.copy .A 0).stuck = true) ∧
    (let s := rebasingOn .rebuilding (.good, true) (.good, true) 1
     0 < s.store.rebuildCursor ∧ PrimaryHolds s 0 rec912 ∧ (s.copy .A 0).stuck = true ∧ (s.copy .B 0).stuck = true) ∧
    (let s := rebasingOn .rebuilding (.correctable, true) (.good, false) 1
     (s.copy .A 0).stuck = true ∧ (s.copy .A 0).check = .correctable) ∧
    (let s := rebasingOn .mirrored (.good, true) (.good, true) 0
     PrimaryHolds s 0 rec912 ∧ (s.copy .A 0).stuck = true ∧ (s.copy .B 0).stuck = true) ∧
    (let s := rebasingOn .mirrored (.correctable, true) (.good, true) 0
     (s.copy .A 0).check = .correctable ∧ (s.copy .A 0).stuck = true ∧ (s.copy .B 0).stuck = true) :=
  ⟨by decide, ⟨by decide, ⟨by decide, by decide⟩, by decide⟩, by decide, ⟨⟨by decide, by decide⟩, by decide⟩,
    by decide⟩

theorem witness_refreshWithinTick :
    let s (k : Nat) := withView 3 { View.reset with state := .resting, refreshTimer := some k } live
    ((Instr.secondTick [.viewTimers, .boardLinks, .serviceClock, .controlPort]).wellFormed = true ∧
      ((s 1).view 3).refreshTimer = some 1 ∧ ((s 0).view 3).refreshTimer = some 0) ∧
    combinationHeld (holdTimersTick (s 1)) = false := by decide

theorem witness_secondTick :
    ((Instr.secondTick [.viewEngine, .boardLinks, .serviceClock, .controlPort]).wellFormed = true ∧
      live.inReset = false ∧ combinationHeld (holdTimersTick live) = false) ∧
    combinationHeld (holdTimersTick combined) = true ∧
    (let s := withView 3 { View.reset with state := .resting, refreshTimer := some 2 } live
     (s.view 3).state = .resting ∧ (s.view 3).refreshTimer = some 2 ∧ (s.view 0).state ≠ .resting) := by decide

theorem witness_secondTick_clockAndHolds :
    (59 ≤ live.clock.seconds ∧ live.clock.isSet = true ∧ live.clock.minute < 2879) ∧
    (live.retire.pass = none ∧ live.clock.hold = false) ∧ (walking live).retire.pass ≠ none ∧
    (live.link 0).advance = false ∧ ((combined.link 0).advance = true ∧ (combined.link 0).heldAtTick = true) ∧
    ((Link.reset true).advance = true ∧ (Link.reset true).heldAtTick = false) := by decide

theorem witness_minuteAndSilence :
    (live.inReset = false ∧ live.clock.seconds = 59 ∧ live.clock.isSet = true ∧ live.clock.minute < 2879) ∧
    (nearSilent.inReset = false ∧ nearSilent.port.stale = false ∧ nearSilent.params.silenceLimit ≠ 0 ∧
      nearSilent.params.silenceLimit = nearSilent.port.silence + 1 ∧ nearSilent.port.silence < 1023) := by decide

theorem witness_retirementStep :
    let s := walking live
    let e := entryOf rec805 0
    (s.retire.pass = some { time := 0, key := 0 } ∧ s.clock.hold = false ∧
      (s.entries.find? fun x => posBefore { time := 0, key := 0 } (entryPos x)) = some e ∧
      e.effective ≤ s.clock.minute ∧ e.held = false ∧ e.effective + s.params.overdueGrace ≤ s.clock.minute) ∧
    ((walking (holds { rec805 with scheduled := 1441 } .single)).clock.minute <
      (entryOf { rec805 with scheduled := 1441 } 0).effective) ∧
    ¬ ((entryOf { rec805 with held := true } 0).held = false) ∧
    ((walking State.reset).entries.find? fun x => posBefore { time := 0, key := 0 } (entryPos x)) = none := by decide

/-! ### Store -/

theorem witness_setStoreState :
    8 ≤ (stage [8, 0] live).place 0 ∧ 2 ≤ (stage [1, 2] live).place 1 ∧
    ((stage [4, 1] State.reset).place 0 = StoreState.code .mirrored ∧
      (stage [4, 1] State.reset).place 1 = bankCode .B ∧ ¬ AllowedTarget State.reset.store.state .mirrored) ∧
    AllowedTarget live.store.state .clearing := by unfold AllowedTarget; decide

/-- A READY store. -/
def readyStore : State := { State.reset with store := { StoreController.reset with state := .ready } }

theorem witness_storeStateGrant :
    (GrantBegun .command none 0 (serves (.storeState .clearing .A) live) ∧
      (serves (.storeState .clearing .A) live).cmd = some (.storeState .clearing .A)) ∧
    AllowedTarget live.store.state .clearing ∧ AllowedTarget readyStore.store.state .single ∧
    AllowedTarget readyStore.store.state .mirrored ∧ AllowedTarget (holds rec805 .single).store.state .mirrored ∧
    AllowedTarget (holds rec805 .degraded).store.state .mirrored ∧ AllowedTarget live.store.state .single ∧
    (AllowedTarget (rebuilding 0).store.state .single ∧ (rebuilding 0).store.origin = some .single) :=
  ⟨⟨⟨rfl, rfl, rfl⟩, rfl⟩, by unfold AllowedTarget; refine ⟨?_, ?_, ?_, ?_, ?_, ?_, ?_, ?_⟩ <;> decide⟩

theorem witness_readCommands : CommandReady 0x21 live ∧ (stage [10] live).place 0 ≤ 10 ∧ 10 < (stage [11] live).place 0 :=
  ⟨ready rfl rfl rfl rfl, by decide, by decide⟩

theorem witness_disturbances :
    (CommandReady 0x22 (stage [1, 255, 2] live) ∧ (stage [1, 255, 2] live).place 0 = bankCode .B ∧
      disturbanceOf ((stage [1, 255, 2] live).place 2) = some .stuck) ∧
    (GrantBegun .command (some 255) 0 (serves (.checkTest .B 255 .stuck) live) ∧
      (serves (.checkTest .B 255 .stuck) live).cmd = some (.checkTest .B 255 .stuck)) ∧
    (∀ g, (granted .sweep (some 255) 0 live).arb.held = some g → g.slot = some 255) ∧
    (∀ g, (granted .sweep (some 255) 0 live).arb.held = some g → g.slot ≠ some 0) := by
  refine ⟨⟨ready rfl rfl rfl rfl, by decide, by decide⟩, ⟨⟨rfl, rfl, rfl⟩, rfl⟩, fun g h => ?_, fun g h => ?_⟩ <;>
    (injection h with h; subst h; decide)

/-- A grant with requests waiting. -/
def waiting (w : Waiting) (s : State) : State := s.setArb { s.arb with waiting := w }

theorem witness_endGrant :
    let none' : Waiting := { command := false, composer := false, copier := false, sweep := false }
    let s := waiting { none' with command := true, sweep := true } (serves (.add 42 1) live)
    (s.arb.waiting.command = true ∧ s.cmd = some (.add 42 1)) ∧
    (let s := waiting { none' with composer := true, copier := true } composing
     s.arb.waiting.command = false ∧ s.arb.waiting.composer = true ∧
      s.composer.work = .candidate 0 (entryOf rec805 0)) ∧
    ((waiting { none' with copier := true } live).arb.waiting.copier = true ∧
      (waiting { none' with sweep := true } live).arb.waiting.sweep = true ∧
      (waiting none' live).arb.waiting.first = none) ∧
    (let s := live.setArb { live.arb with deferred := [(.A, 255, .stuck), (.B, 0, .correctable)] }
     ∀ d ∈ s.arb.deferred, d.2.1 < 256) := by decide

theorem witness_clearingStep :
    (clearing 0).inReset = false ∧ (clearing 0).store.state = .clearing ∧ (clearing 0).arb.held = none ∧
      (clearing 0).arb.waiting.first = none ∧ (clearing 255).store.clearingCursor + 1 = 256 := by decide

theorem witness_copierStep :
    (GrantBegun .copier (some 0) 0 (rebuilding 0) ∧ (rebuilding 0).store.state = .rebuilding ∧
      MemoryCanonical (rebuilding 0) ∧ ((rebuilding 0).copy (otherBank (rebuilding 0).store.primary) 0).stuck = false ∧
      (∃ e ∈ (rebuilding 0).entries, e.slot = 0) ∧ ((rebuilding 0).copy (rebuilding 0).store.primary 0).check = .good) ∧
    (GrantBegun .copier (some 255) 0 (rebuilding 255) ∧ MemoryCanonical (rebuilding 255) ∧
      ∀ e ∈ (rebuilding 255).entries, e.slot ≠ 255) ∧
    (let s := (rebuilding 255).setCopy .B 255 { resetCopy with stuck := true }
     GrantBegun .copier (some 255) 0 s ∧ s.store.origin = some .single ∧
      (s.copy (otherBank s.store.primary) 255).stuck = true ∧ (∀ e ∈ s.entries, e.slot ≠ 255) ∧
      s.events.firstError = none) :=
  ⟨⟨⟨rfl, rfl, rfl⟩, rfl, by unfold MemoryCanonical; decide, by decide, by decide, by decide⟩,
    ⟨⟨rfl, rfl, rfl⟩, by unfold MemoryCanonical; decide, by decide⟩,
    ⟨⟨rfl, rfl, rfl⟩, rfl, by decide, by decide, rfl⟩⟩

theorem witness_copierStep_cursor :
    (GrantBegun .copier (some 254) 0 (rebuilding 254) ∧ ∀ e ∈ (rebuilding 254).entries, e.slot ≠ 254) ∧
      254 + 1 < 256 ∧ 255 + 1 = 256 := ⟨⟨⟨rfl, rfl, rfl⟩, by decide⟩, by decide, by decide⟩

theorem witness_copierStep_damaged :
    let bad (c : CheckCondition) (stuck : Bool) :=
      (rebuilding 0).setCopy .A 0 { goodCopy rec805 with check := c, stuck := stuck }
    let s := bad .correctable false
    (GrantBegun .copier (some 0) 0 s ∧ s.store.state = .rebuilding ∧ s.dir.isOpen = true ∧
      (s.entries.find? fun x => x.slot == 0) = some (entryOf rec805 0) ∧
      (s.entries.find? fun x => x.key == 805 && x.slot == 0) = some (entryOf rec805 0) ∧ MemoryCanonical s) ∧
    ((s.copy .A 0).check = .correctable ∧ (s.copy .A 0).contents = .body rec805 ∧ (s.copy .A 0).stuck = false ∧
      (s.copy .B 0).stuck = false) ∧
    (((bad .uncorrectable false).copy .A 0).check = .uncorrectable ∧ MemoryCanonical (bad .uncorrectable false)) ∧
    (((bad .correctable true).copy .A 0).stuck = true ∧ MemoryCanonical (bad .correctable true)) :=
  ⟨⟨⟨rfl, rfl, rfl⟩, rfl, rfl, by decide, by decide, by unfold MemoryCanonical; decide⟩, by decide,
    ⟨by decide, by unfold MemoryCanonical; decide⟩, by decide, by unfold MemoryCanonical; decide⟩

theorem witness_sweep_damaged :
    let bad (c : CheckCondition) (stuck : Bool) :=
      granted .sweep (some 0) 0 (live.setCopy .B 0 { goodCopy rec805 with check := c, stuck := stuck })
    let s := bad .correctable false
    (GrantBegun .sweep (some 0) 0 s ∧ s.store.state = .mirrored ∧
      (s.entries.find? fun x => x.slot == 0) = some (entryOf rec805 0) ∧ MemoryCanonical s) ∧
    ((s.copy .A 0).check = .good ∧ (s.copy .A 0).contents = .body rec805 ∧ (s.copy .B 0).check = .correctable ∧
      (s.copy .B 0).contents = .body rec805 ∧ (s.copy .B 0).stuck = false) ∧
    (((bad .uncorrectable false).copy .B 0).check = .uncorrectable ∧ MemoryCanonical (bad .uncorrectable false)) ∧
    (((bad .uncorrectable true).copy .B 0).stuck = true ∧ MemoryCanonical (bad .uncorrectable true)) :=
  ⟨⟨⟨rfl, rfl, rfl⟩, rfl, by decide, by unfold MemoryCanonical; decide⟩, by decide,
    ⟨by decide, by unfold MemoryCanonical; decide⟩, by decide, by unfold MemoryCanonical; decide⟩

theorem witness_sweep_setAnew :
    (granted .sweep (some 255) 0 { live with sweep := { live.sweep with setAnew := true } }).sweep.setAnew = true := rfl

theorem witness_sweep :
    (sweeping.inReset = false ∧ sweeping.sweep.timer = some 1) ∧
    (let s := granted .sweep (some 255) 0 live
     GrantBegun .sweep (some 255) 0 s ∧ s.sweep.setAnew = false ∧ s.arb.waiting.first = none ∧
      ∀ e ∈ s.entries, e.slot ≠ 255) ∧
    (let s := granted .sweep (some 0) 0 live
     GrantBegun .sweep (some 0) 0 s ∧ sweepRunsIn s.store.state = true ∧ ∀ b, (s.copy b 0).check = .good) :=
  ⟨by decide, ⟨⟨rfl, rfl, rfl⟩, rfl, by decide, by decide⟩, ⟨⟨rfl, rfl, rfl⟩, rfl, fun b => by cases b <;> decide⟩⟩

theorem witness_correctable :
    ((correctable .mirrored false).copy .A 0).check = .correctable ∧
    ((correctable .mirrored false).copy .A 0).contents = .body rec805 ∧
    (((correctable .mirrored false).copy .A 0).stuck = false ∧ (correctable .mirrored false).serving = true) ∧
    (((correctable .mirrored true).copy .A 0).stuck = true ∧ (correctable .mirrored true).store.state = .mirrored) ∧
    (((correctable .single true).copy .A 0).stuck = true ∧ (correctable .single true).store.state = .single) := by decide

theorem witness_unreadable :
    (unreadable live).serving = true ∧ (unreadable live).dir.isOpen = true ∧
      ((unreadable live).copy .A 0).check = .uncorrectable ∧ ((unreadable live).copy .B 0).check = .uncorrectable ∧
      ((unreadable live).dir.order.find? fun x => x.key == 805 && x.slot == 0) = some (entryOf rec805 0) ∧
      (unreadable live).events.firstFatal = none := by decide

theorem witness_repaired :
    let bad (lost : Bool) := live.setCopy .A 0 { goodCopy rec805 with check := .uncorrectable, stuck := lost }
    (live.store.state = .mirrored ∧ ((bad false).copy .A 0).check = .uncorrectable ∧
      ((bad false).copy .B 0).check ≠ .uncorrectable ∧ ((bad false).copy .B 0).contents = .body rec805) ∧
    (((bad false).copy .A 0).stuck = false ∧ ((bad false).copy .B 0).stuck = false) ∧
    (((bad true).copy .A 0).stuck = true ∧ ((bad true).copy .B 0).stuck = false) ∧
    (((stuckIn .B (bad false)).copy .B 0).stuck = true ∧ ((stuckIn .B (bad false)).copy .A 0).stuck = false) ∧
    (((stuckIn .B (bad true)).copy .A 0).stuck = true ∧ ((stuckIn .B (bad true)).copy .B 0).stuck = true) := by decide

/-- A rebuild that has copied slot 0. -/
def copied : State :=
  let s := holds rec805 .rebuilding
  { s with store := { s.store with origin := some .single, rebuildCursor := 1 } }

theorem witness_bodyWrites :
    ((stuckIn .A live).store.state = .mirrored ∧ ((stuckIn .A live).copy .A 0).stuck = true ∧
      ((stuckIn .A live).copy .B 0).stuck = false) ∧
    ((stuckIn .A (stuckIn .B live)).copy .A 0).stuck = true ∧ ((stuckIn .A (stuckIn .B live)).copy .B 0).stuck = true ∧
    ((stuckIn .A (holds rec805 .rebuilding)).store.rebuildCursor ≤ 0 ∧
      ((stuckIn .A (holds rec805 .rebuilding)).copy .A 0).stuck = true) ∧
    (copied.store.state = .rebuilding ∧ 0 < copied.store.rebuildCursor ∧ copied.store.origin = some .single) ∧
    (((stuckIn .A copied).copy .A 0).stuck = true ∧ ((stuckIn .A copied).copy .B 0).stuck = false) ∧
    (((stuckIn .B copied).copy .A 0).stuck = false ∧ ((stuckIn .B copied).copy .B 0).stuck = true) := by decide

theorem witness_bodyWrites_commands :
    (let s := (serves (.add 42 255) (adding 63 1)).setCopy .A 255 { resetCopy with stuck := true }
     GrantBegun .command (some 255) 42 s ∧ s.cmd = some (.add 42 255) ∧ s.store.state = .mirrored ∧
      s.dir.isOpen = true ∧ (s.copy .A 255).stuck = true ∧ (s.copy (otherBank .A) 255).stuck = false ∧
      (∀ e ∈ s.dir.order, e.key ≠ s.stagedKey) ∧ ∀ e ∈ s.dir.order, e.slot ≠ 255) ∧
    (let s := serves (.amend 805 0 0) (stuckIn .B copied)
     GrantBegun .command (some 0) 805 s ∧ s.cmd = some (.amend 805 0 0) ∧ s.dir.isOpen = true ∧
      PrimaryHolds s 0 rec805 ∧ (s.copy s.store.primary 0).stuck = false ∧
      (s.copy (otherBank s.store.primary) 0).stuck = true ∧
      (s.dir.order.find? fun x => x.key == 805 && x.slot == 0) = some (entryOf rec805 0)) :=
  ⟨⟨⟨rfl, rfl, rfl⟩, rfl, rfl, rfl, by decide, by decide, by decide, by decide⟩,
    ⟨rfl, rfl, rfl⟩, rfl, rfl, ⟨by decide, by decide⟩, by decide, by decide, by decide⟩

/-! ### Parameters, events, links -/

theorem witness_setParameter_ranges :
    (stage [11, 0, 0] live).place 0 = 11 ∧ paramInRange 11 0 = false ∧ paramInRange 10 1 = false ∧
    paramInRange 7 1001 = false ∧ paramInRange 7 1000 = true ∧ paramInRange 10 15 = true ∧ paramInRange 3 1023 = true ∧
    paramInRange 8 255 = true ∧ paramInRange 9 255 = true ∧ (stage [7, 3, 232] live).word 1 = 1000 := by decide

theorem witness_setParameter_actions :
    (CommandReady 0x28 (stage [6, 0, 1] live) ∧ (stage [6, 0, 1] live).word 1 = 1 ∧
      live.params.sweepEnable = 0 ∧ sweepRunsIn live.store.state = true) ∧
    (live.setParams { Params.reset with sweepEnable := 1 }).params.sweepEnable = 1 ∧
    sweepRunsIn readyStore.store.state = false ∧
    (let s := stage [5, 0, 63] (live.setParams { Params.reset with noticePhrase := 63 })
     s.word 1 = s.params.noticePhrase ∧ PhraseDefined s (s.word 1)) ∧
    (63 ≠ live.params.noticePhrase ∧ PhraseDefined live 63 ∧ PhraseDefined live 1) ∧
    (live.phrase 2).state = .retiring :=
  ⟨⟨ready rfl rfl rfl rfl, by decide, by decide, by decide⟩, rfl, rfl, ⟨by decide, by unfold PhraseDefined; decide⟩,
    ⟨by decide, by unfold PhraseDefined; decide, by unfold PhraseDefined; decide⟩, by decide⟩

theorem witness_setParameter_sweepRange :
    let held := granted .sweep (some 0) 0 (stage [9, 0, 255] live)
    (CommandReady 0x28 held ∧ held.place 0 = 9 ∧ held.word 1 = 255 ∧ (held.grantOf .sweep).isSome = true) ∧
      ((stage [8, 0, 0] live).place 0 = 8 ∧ (live.grantOf .sweep).isSome = false) :=
  ⟨⟨ready rfl rfl rfl rfl, by decide, by decide, by decide⟩, by decide, by decide⟩

theorem witness_eventCommands :
    (CommandReady 0x31 (stage [15, 255] live) ∧ (stage [15, 255] live).word 0 < 4096) ∧
    4096 ≤ (stage [16, 0] live).word 0 ∧ (stage [1] live).place 0 = 1 ∧ 2 ≤ (stage [2] live).place 0 ∧
    (stage [2] live).place 0 ≤ 2 ∧ 3 ≤ (stage [3] live).place 0 :=
  ⟨⟨ready rfl rfl rfl rfl, by decide⟩, by decide, by decide, by decide, by decide, by decide⟩

theorem witness_masks :
    CommandReady 0x34 live ∧
    ((stage [0, 0, 15, 255, 15, 255] live).word 2 < 4096 ∧ (stage [0, 0, 15, 255, 15, 255] live).word 4 < 4096) ∧
    4096 ≤ (stage [0, 0, 16, 0, 0, 0] live).word 2 ∧ 4096 ≤ (stage [0, 0, 0, 0, 16, 0] live).word 4 :=
  ⟨ready rfl rfl rfl rfl, by decide, by decide, by decide⟩

theorem witness_filledCapture :
    (∃ c, eventful.events.firstError = some c) ∧ (∃ t, step eventful = .next t) ∧
      ∃ c, ({ eventful with events := { eventful.events with firstFatal := eventful.events.firstError } } :
        State).events.firstFatal = some c := ⟨⟨_, rfl⟩, ⟨_, rfl⟩, ⟨_, rfl⟩⟩

theorem witness_captureEmptied :
    (commandWritten .restart State.reset = some 0x3F ∧ commandWritten .clearCapture (stage [2] State.reset) = some 0x33 ∧
      (stage [2] State.reset).place 0 = 2) ∧
    commandWritten (.firstNibble false false 0x3F) (four (some { sel := false, half := .write 3 })) = some 0x33 ∧
    GivesFullReset .powerOn State.reset := ⟨by decide, by decide, .inl rfl⟩

theorem witness_frameLevels : (((Link.reset false).sends blank).frame[4]?).isSome = true ∧
    10 * (Link.reset false).frame.length ≤ 0 := by decide

theorem witness_frames :
    (rowFrame blank).length ≤ 255 ∧ blank.content = .blank ∧
      ({ blank with content := .notice [0x20] } : Row).content = .notice [0x20] := by decide

theorem witness_frameEndAndTake :
    ((withLink 0 ((Link.reset false).sends blank) State.reset).link 0).state = .sending ∧
    (((awaiting none).link 0).state = .awaitTake ∧ ((awaiting none).link 0).parked = none) ∧
    (let s := withView 0 { View.reset with state := .parked, resume := some .rest } (awaiting (some blank))
     (s.link 0).state = .awaitTake ∧ (s.link 0).parked = some blank ∧ (s.view 0).resume = some .rest) ∧
    (State.reset.link 3).state ≠ .awaitTake := by decide

theorem witness_linkLoss :
    (awaiting (some blank)).inReset = false ∧ ((awaiting (some blank)).link 0).state = .awaitTake ∧
      (awaiting (some blank)).events.firstError = none := by decide

theorem witness_advance :
    ((live.link 3).advance = false ∧ (live.view 3).state ≠ .stepWait) ∧
    (let s := withView 0 { View.reset with state := .stepWait, rowIndex := 7 } live
     (s.view 0).state = .stepWait ∧ (s.view 0).rowIndex < (s.view 0).config.rowCount) ∧
    (let s := withView 0 { View.reset with state := .stepWait, rowIndex := 8 } live
     (s.view 0).state = .stepWait ∧ (s.view 0).rowIndex = (s.view 0).config.rowCount) := by decide

/-! ### Laws -/

/-- The live store with a RETIRE of its record at the front of the queue. -/
def lawful : State := (stage [3, 37] live).withPending [.retire .whole]

theorem witness_step : ∃ t, step lawful = .next t ∧ t.dir.order = [] := ⟨_, rfl, by decide⟩

theorem witness_memoryCanonical : MemoryCanonical lawful := by unfold MemoryCanonical; decide

theorem witness_clockLaw : ClockLaw lawful :=
  ⟨by decide, by decide, ⟨fun h => absurd h (by decide), fun ⟨_, h⟩ => nomatch h⟩, fun _ => rfl⟩

theorem witness_viewsAndLinksLaw : ViewsAndLinksLaw lawful := by
  intro v
  have hl : ∀ v : Fin 4, lawful.link v = Link.reset false := by decide
  have hv : ∀ v : Fin 4, lawful.view v = View.reset := by decide
  refine ⟨?_, ?_⟩
  · rw [hl v]
    unfold LinkLaw
    decide
  · unfold ViewLaw
    rw [hl v, hv v]
    refine ⟨by decide, by decide, by decide, by decide, fun h => ?_⟩
    rcases h with h | h | ⟨e, h⟩ <;> exact nomatch h

theorem witness_directoryLaw : DirectoryLaw lawful :=
  ⟨rfl, fun h => (nomatch h), by decide, by decide, by decide, by decide, .inl rfl⟩

theorem witness_arbiterLaw : ArbiterLaw lawful := by
  refine ⟨fun _ => rfl, fun h => ?_, fun h => ?_, fun h => ?_, fun g h => ?_⟩ <;> exact nomatch h

theorem witness_mirrorLaw : MirrorLaw lawful ∧ MirroredSlot lawful 0 ∧ LiveOrWritten lawful 0 := by
  have none_held : lawful.arb.held = none := rfl
  refine ⟨⟨fun n _ hn => ?_, fun g n h => ?_⟩, .inl rfl, .inl (by decide)⟩
  swap
  · rw [none_held] at h
    exact nomatch h
  rcases hn with hn | ⟨g, _, _, _, h, _⟩
  · have h0 : n = 0 := by
      by_contra h
      have h' : ¬ ((entryOf rec805 0).slot == n) = true := by
        simp only [beq_iff_eq]
        exact fun h2 => h h2.symm
      simp only [State.occupied, lawful, live, holds, stage, State.setStaging, State.setPort, State.withPending,
        List.any_cons, List.any_nil, Bool.or_false] at hn
      exact h' hn
    subst h0
    intro _ _
    decide
  · exact nomatch h

/-- The lawful store with every phrase's count that of its uses. -/
def counted : State := lawful.setPhrase 3 freePhrase

theorem witness_phraseLaw : PhraseLaw counted := by
  intro n h1 h2
  have h : ∀ k : Fin 63,
      (counted.phrase (k + 1)).count = (counted.dir.order.map (usesOf (k + 1))).sum +
        (if counted.params.noticePhrase = k + 1 then 1 else 0) ∧
      ((counted.phrase (k + 1)).state = .free →
        (counted.phrase (k + 1)).count = 0 ∧ (counted.phrase (k + 1)).text = []) ∧
      ((counted.phrase (k + 1)).state = .retiring → 1 ≤ (counted.phrase (k + 1)).count) ∧
      ((counted.phrase (k + 1)).state ≠ .free →
        1 ≤ (counted.phrase (k + 1)).text.length ∧ (counted.phrase (k + 1)).text.length ≤ 24) := by decide
  have hn : n - 1 + 1 = n := by omega
  simpa [hn] using h ⟨n - 1, by omega⟩

theorem witness_referenceLaw : ReferenceLaw counted ∧ counted.dir.order ≠ [] := by
  refine ⟨⟨witness_phraseLaw, fun e he b hb _ => ?_, ⟨fun _ _ h => (nomatch h), fun _ _ _ h => (nomatch h), ?_⟩,
    fun _ _ _ h => (nomatch h)⟩, by decide⟩
  · have he' : e = entryOf rec805 0 := by
      have h : counted.dir.order = [entryOf rec805 0] := by decide
      rw [h] at he
      exact List.mem_singleton.mp he
    subst he'
    exact ⟨rec805, by cases b <;> decide, rfl, .inl rfl⟩
  · rintro key slot (⟨_, h⟩ | ⟨_, h, _⟩) <;> exact nomatch h

end Sys2Proof.Tests
end

/-!
PROOFS. The record commands: KEEPALIVE, AMEND's tests and request, the fetch commands' requests and grant, and the
tests of the other commands. A command reads the same places, phrases and entries before and after its strobe, so the
equations of a command are stated for any state and used on the state right after the strobe.
-/

namespace Sys2Proof.Proofs.RecordCommands

open Sys2Proof Sys2Proof.Machine

/-! ## What a command row does, given what its command does -/

/-- The state right after the strobe that ends a command write (`strobed_eq`). Whatever a command reads stands there as
it stood before. -/
abbrev struck (s : State) : State := { s with port := portTaken s.port }

/-- The row ends at its strobe with the result code, and nothing else changes (R22). -/
def Ends (i : Instr) (rc : ResultCode) (s : State) : Prop :=
  exec i s = .next (s.onlyPort { portTaken s.port with lastResult := rc })

/-- The row's strobe ends the write of the byte, and the byte names a command that is accepted (R155, R171). RETIRE's
lookup apart from its remove claim is said by `ends_retireLookup`. -/
abbrev AcceptedRow (i : Instr) (b : Byte) : Prop :=
  commandByteOf i = some b ∧ i ≠ .retire .lookup ∧ b.toNat < 0x40

/-- A command row that is ready runs its command on the state right after its strobe. -/
theorem exec_accepted {i : Instr} {b : Byte} {s : State} (h : CommandReady b s)
    (hi : AcceptedRow i b := by decide) : exec i s = .next (acceptCommand b.toNat (struck s)) := by
  obtain ⟨hbyte, hl, hb⟩ := hi
  exact exec_command hbyte hl h (by omega) (by omega) (by omega)

/-- A command row that is ready ends with the result its command refuses with. -/
theorem ends_of_refuse {i : Instr} {b : Byte} {s : State} {rc : ResultCode} (h : CommandReady b s)
    (hr : acceptCommand b.toNat (struck s) = refuse rc (struck s)) (hi : AcceptedRow i b := by decide) :
    Ends i rc s := by
  rw [Ends, exec_accepted h hi, hr, refuse_portTaken s rc h.2]

/-- A command row that is ready asks for the grant that its command holds for. -/
theorem asks_of_hold {i : Instr} {b : Byte} {s : State} {c : InFlight} {slot : Option Nat} {key : Nat}
    (h : CommandReady b s) (hc : commandTarget c = (slot, key))
    (hr : acceptCommand b.toNat (struck s) = holdForGrant c (struck s)) (hi : AcceptedRow i b := by decide) :
    exec i s = .next (s.commandAsks c slot key) := by
  rw [exec_accepted h hi, hr, holdForGrant_portTaken s c slot key hc]

/-- RETIRE's lookup apart from its remove claim ends with the result that the lookup refuses with (R35, log 4). -/
theorem ends_retireLookup {s : State} {rc : ResultCode} (h : CommandReady 0x03 s)
    (hr : retireLookup (struck s) = refuse rc (struck s)) : Ends (.retire .lookup) rc s := by
  rw [Ends, exec_retireLookup h, hr, refuse_portTaken s rc h.2]

/-! ## What the claims answer in an open Directory -/

section

variable {s : State}

theorem lookupKey_open (ho : s.dir.isOpen = true) (key : Nat) :
    lookupKey key s = s.dir.order.find? fun e => e.key == key := by
  rw [lookupKey, entries_open ho]

theorem lookupKey_none (ho : s.dir.isOpen = true) {key : Nat} (h : ∀ e ∈ s.dir.order, e.key ≠ key) :
    lookupKey key s = none := by
  rw [lookupKey_open ho, List.find?_eq_none]
  simpa using h

theorem lookupRank_open (ho : s.dir.isOpen = true) (rank : Nat) : lookupRank rank s = s.dir.order[rank]? := by
  rw [lookupRank, entries_open ho]

theorem nextAfter_open (ho : s.dir.isOpen = true) (pos : Position) :
    nextAfter pos anyEntry s = s.dir.order.find? fun e => posBefore pos (entryPos e) := by
  simp only [nextAfter, entries_open ho, anyEntry, Bool.and_true]

theorem nextAfter_none (ho : s.dir.isOpen = true) {pos : Position}
    (h : ∀ e ∈ s.dir.order, posBefore pos (entryPos e) = false) : nextAfter pos anyEntry s = none := by
  rw [nextAfter_open ho, List.find?_eq_none]
  simpa using h

theorem entryAt_open (ho : s.dir.isOpen = true) (key slot : Nat) :
    entryAt key slot s = s.dir.order.find? fun e => e.key == key && e.slot == slot := by
  rw [entryAt, entries_open ho]

/-- The entry that an update, remove or re-check claim finds has the key and the slot it was given (R16, R17). -/
theorem entryAt_names {key slot : Nat} {e : Entry} (h : entryAt key slot s = some e) :
    e.key = key ∧ e.slot = slot := by
  unfold entryAt at h
  simpa using List.find?_some h

/-! ## The phrase tests (R24) -/

theorem phraseTest_free {n : Nat} (h : (s.phrase n).state = .free) : phraseTest n s = some .unknownPhrase := by
  simp only [phraseTest, h]

theorem phraseTest_retiring {n : Nat} (h : (s.phrase n).state = .retiring) :
    phraseTest n s = some .phraseRetiring := by
  simp only [phraseTest, h]

/-- The destination's test comes first. -/
theorem phraseTests_destination {n : Nat} {rc : ResultCode} (via : Option Nat) (h : phraseTest n s = some rc) :
    phraseTests (some n) via s = some rc := by
  simp only [phraseTests, Option.bind_some, h]

/-- The via's test decides once the destination has passed. -/
theorem phraseTests_via {destination : Option Nat} {n : Nat} {rc : ResultCode}
    (hd : OptPhraseDefined s destination) (h : phraseTest n s = some rc) :
    phraseTests destination (some n) s = some rc := by
  cases destination with
  | none => simp only [phraseTests, Option.bind_none, Option.bind_some, h]
  | some d =>
    have hdef : (s.phrase d).state = .defined := hd d rfl
    simp only [phraseTests, Option.bind_some, phraseTest, hdef]
    exact h

theorem optPhraseDefined_ite {b : Bool} {o : Option Nat} (h : b = true → OptPhraseDefined s o) :
    OptPhraseDefined s (if b then o else none) := by
  cases b with
  | false => exact fun _ hn => nomatch hn
  | true => exact h rfl

theorem optPhraseDefined_some {n : Nat} (h : PhraseDefined s n) : OptPhraseDefined s (some n) := by
  rintro _ ⟨⟩
  exact h

/-! ## AMEND's tests (R31) -/

theorem amendCommand_of_notServing (hs : s.serving = false) : amendCommand s = refuse .notServing s := by
  simp [amendCommand, hs]

theorem amendCommand_of_outOfRange (hs : s.serving = true) (h : s.place 15 = 0 ∨ ¬ AmendFieldsInRange s) :
    amendCommand s = refuse .fieldRange s := by
  rw [← amendInRange_iff] at h
  by_cases hm : s.place 15 = 0
  · simp [amendCommand, hs, hm]
  · simp [amendCommand, hs, hm, h.resolve_left hm]

/-- AMEND's tests before those of its phrases: the store serves records, the mask selects a field, and the key and every
selected field are in range (R20, R23, R31). -/
def AmendInRange (s : State) : Prop := s.serving = true ∧ s.place 15 ≠ 0 ∧ AmendFieldsInRange s

/-- An AMEND in range is refused by the first phrase test that fails. -/
theorem amendCommand_of_phraseTests (h : AmendInRange s) {rc : ResultCode}
    (hp : phraseTests (if s.selects .destination then some s.stagedBody.destination else none)
      (if s.selects .via then s.stagedBody.via else none) s = some rc) :
    amendCommand s = refuse rc s := by
  obtain ⟨hs, hm, hr⟩ := h
  simp only [amendCommand, hs, hm, (amendInRange_iff s).mpr hr, hp, Bool.not_true, Bool.false_eq_true, if_false]

theorem amendCommand_of_destination (h : AmendInRange s) {rc : ResultCode} (hd : s.selects .destination = true)
    (hp : phraseTest s.stagedBody.destination s = some rc) : amendCommand s = refuse rc s := by
  apply amendCommand_of_phraseTests h
  rw [if_pos hd]
  exact phraseTests_destination _ hp

theorem amendCommand_of_via (h : AmendInRange s)
    (hd : s.selects .destination = true → PhraseDefined s s.stagedBody.destination) {v : Nat} {rc : ResultCode}
    (hv : s.selects .via = true) (hs : s.stagedBody.via = some v) (hp : phraseTest v s = some rc) :
    amendCommand s = refuse rc s := by
  apply amendCommand_of_phraseTests h
  rw [if_pos hv, hs]
  exact phraseTests_via (optPhraseDefined_ite fun hb => optPhraseDefined_some (hd hb)) hp

/-- An AMEND that has passed every test but those on the record it names: in range, its phrases DEFINED, and the
Directory open for its lookup claim. -/
structure AmendReachesLookup (s : State) : Prop where
  inRange : AmendInRange s
  destination : s.selects .destination = true → PhraseDefined s s.stagedBody.destination
  via : s.selects .via = true → OptPhraseDefined s s.stagedBody.via
  isOpen : s.dir.isOpen = true

theorem AmendReachesLookup.phraseTests (h : AmendReachesLookup s) :
    phraseTests (if s.selects .destination then some s.stagedBody.destination else none)
      (if s.selects .via then s.stagedBody.via else none) s = none :=
  phraseTests_none s _ _ (optPhraseDefined_ite fun hb => optPhraseDefined_some (h.destination hb))
    (optPhraseDefined_ite h.via)

theorem amendCommand_of_unknownKey (h : AmendReachesLookup s) (hk : lookupKey s.stagedKey s = none) :
    amendCommand s = refuse .unknownKey s := by
  obtain ⟨hs, hm, hr⟩ := h.inRange
  simp only [amendCommand, hs, hm, (amendInRange_iff s).mpr hr, h.phraseTests, h.isOpen, hk, Bool.not_true,
    Bool.false_eq_true, if_false]

theorem amendCommand_of_departed (h : AmendReachesLookup s) {e : Entry} (hk : lookupKey s.stagedKey s = some e)
    (hf : s.selects .status = true) (he : e.status = .departed) : amendCommand s = refuse .statusFinal s := by
  obtain ⟨hs, hm, hr⟩ := h.inRange
  simp [amendCommand, hs, hm, (amendInRange_iff s).mpr hr, h.phraseTests, h.isOpen, hk, hf, he]

theorem amendCommand_of_found (h : AmendReachesLookup s) {e : Entry} (hk : lookupKey s.stagedKey s = some e)
    (hf : s.selects .status = true → e.status ≠ .departed) :
    amendCommand s = holdForGrant (.amend e.key e.slot (rankOf e.key s)) s := by
  obtain ⟨hs, hm, hr⟩ := h.inRange
  have hfinal : (s.selects .status && e.status == .departed) = false := by simpa using hf
  simp [amendCommand, hs, hm, (amendInRange_iff s).mpr hr, h.phraseTests, h.isOpen, hk, hfinal]

/-! ## RETIRE's tests (R35) -/

theorem retireCommand_of_notServing (hs : s.serving = false) : retireCommand s = refuse .notServing s := by
  simp [retireCommand, hs]

theorem retireLookup_of_notServing (hs : s.serving = false) : retireLookup s = refuse .notServing s := by
  simp [retireLookup, hs]

theorem retireCommand_of_unknownKey (hs : s.serving = true) (ho : s.dir.isOpen = true)
    (hk : lookupKey s.stagedKey s = none) : retireCommand s = refuse .unknownKey s := by
  simp [retireCommand, hs, ho, hk]

theorem retireLookup_of_unknownKey (hs : s.serving = true) (ho : s.dir.isOpen = true)
    (hk : lookupKey s.stagedKey s = none) : retireLookup s = refuse .unknownKey s := by
  simp [retireLookup, hs, ho, hk]

/-! ## The attempt of a fetch command (R36 to R39) -/

theorem beginAttempt_of_none (how : Find) (ho : s.dir.isOpen = true) (h : findRecord how s = none) :
    beginAttempt how s = refuse (nothingFound how) s := by
  simp [beginAttempt, ho, h]

theorem beginAttempt_of_some (how : Find) {e : Entry} (ho : s.dir.isOpen = true) (h : findRecord how s = some e) :
    beginAttempt how s = holdForGrant (.fetch how e.key e.slot (rankOf e.key s)) s := by
  simp [beginAttempt, ho, h]

theorem fetchCommand_of_notServing (hs : s.serving = false) : fetchCommand s = refuse .notServing s := by
  simp [fetchCommand, hs]

theorem fetchCommand_of_serving (hs : s.serving = true) : fetchCommand s = beginAttempt (.byKey s.stagedKey) s := by
  simp [fetchCommand, hs]

theorem fetchRankCommand_of_notServing (hs : s.serving = false) : fetchRankCommand s = refuse .notServing s := by
  simp [fetchRankCommand, hs]

theorem fetchRankCommand_of_serving (hs : s.serving = true) :
    fetchRankCommand s = beginAttempt (.byRank (s.word 18)) s := by
  simp [fetchRankCommand, hs]

theorem findNextCommand_of_notServing (hs : s.serving = false) : findNextCommand s = refuse .notServing s := by
  simp [findNextCommand, hs]

theorem findNextCommand_of_late (hs : s.serving = true) (hw : 2879 < s.word 2) :
    findNextCommand s = refuse .fieldRange s := by
  have ht : timeOk (s.word 2) = false := by
    rw [Bool.eq_false_iff, ne_eq, timeOk_iff]
    omega
  simp [findNextCommand, hs, ht]

theorem findNextCommand_of_inRange (hs : s.serving = true) (hw : s.word 2 ≤ 2879) :
    findNextCommand s = beginAttempt (.after { time := s.word 2, key := s.word 0 }) s := by
  simp [findNextCommand, hs, (timeOk_iff _).mpr hw, State.stagedPosition]

/-! ## The grant of a fetch command (R36, R40) -/

theorem disturbCopy_setPort (b : Bank) (n : Nat) (kind : DisturbanceKind) (s : State) (p : ControlPort) :
    disturbCopy b n kind (s.setPort p) = (disturbCopy b n kind s).setPort p := by
  unfold disturbCopy
  split <;> rfl

theorem applyDeferred_setPort (l : List (Bank × Nat × DisturbanceKind)) (s : State) (p : ControlPort) :
    applyDeferred l (s.setPort p) = (applyDeferred l s).setPort p := by
  induction l generalizing s with
  | nil => rfl
  | cons d l ih => exact (congrArg (applyDeferred l) (disturbCopy_setPort _ _ _ s p)).trans (ih _)

theorem grantTo_setPort (r : Requester) (s : State) (p : ControlPort) :
    grantTo r (s.setPort p) = (grantTo r s).setPort p := by
  cases r <;> rfl

/-- The end of a grant neither reads nor touches the Control Port. -/
theorem endGrant_setPort (s : State) (p : ControlPort) : endGrant (s.setPort p) = (endGrant s).setPort p := by
  simp only [endGrant, State.setPort_arb, State.setArb_arb, applyDeferred_setPort]
  cases (applyDeferred s.arb.deferred s).arb.waiting.first with
  | none => rfl
  | some r => exact grantTo_setPort r ((applyDeferred s.arb.deferred s).setArb _) p

/-- A grant that completes its command ends as it would have without the completion's outputs. -/
theorem completeGrant_ended (rc : ResultCode) (out : Option (List Byte)) (q : Bool) (s : State) :
    GrantEnded { s with cmd := none } (completeGrant rc out q s) := by
  have h : completeGrant rc out q s = (endGrant { s with cmd := none }).setPort (complete rc out q s).port :=
    endGrant_setPort { s with cmd := none } (complete rc out q s).port
  rw [h]
  exact ⟨rfl, rfl⟩

theorem completeGrant_port (rc : ResultCode) (out : Option (List Byte)) (q : Bool) (s : State) :
    (completeGrant rc out q s).port = (complete rc out q s).port := endGrant_port _

theorem completeGrant_cmd (rc : ResultCode) (out : Option (List Byte)) (q : Bool) (s : State) :
    (completeGrant rc out q s).cmd = none := endGrant_cmd _

theorem completeGrant_elsewhere (rc : ResultCode) (out : Option (List Byte)) (q : Bool) (s : State) :
    SameElsewhere s (completeGrant rc out q s) := by
  simp only [SameElsewhere, completeGrant_pending, completeGrant_inReset, completeGrant_clock, completeGrant_retire,
    completeGrant_links, completeGrant_views, completeGrant_composer, and_self]

theorem completeGrant_copies (rc : ResultCode) (out : Option (List Byte)) (q : Bool) (hd : s.arb.deferred = []) :
    SameCopies s (completeGrant rc out q s) := by
  apply State.copy_congr
  rw [completeGrant, endGrant_mem (by rwa [complete_arb]), complete_mem]

/-- The re-check claim that finds the record completes the command with the body read, its slot and its rank. -/
theorem fetchRecheck_of_live (x : Extent) (how : Find) {key slot : Nat} (r : RecordBody) {e : Entry}
    (ho : s.dir.isOpen = true) (he : entryAt key slot s = some e) :
    fetchRecheck x how key slot r s = completeGrant .ok (some (recordBytes r slot (rankOf key s))) false s := by
  obtain ⟨hk, hslot⟩ := entryAt_names he
  simp only [fetchRecheck, ho, he, hk, hslot, Bool.not_true, Bool.false_eq_true, if_false]

/-- A whole step of a fetch command's grant on a GOOD primary copy is the re-check claim on its body. -/
theorem exec_fetchGrant_of_good {how : Find} {key slot rank : Nat} {r : RecordBody}
    (hg : GrantBegun .command (some slot) key s) (hc : s.cmd = some (.fetch how key slot rank))
    (hs : s.serving = true) (hp : PrimaryHolds s slot r) :
    exec (.fetchGrant .whole) s = .next (fetchRecheck .whole how key slot r s) := by
  obtain ⟨hr, _, hh⟩ := hg
  show whenAwake (fetchGrantStep .whole) s = _
  simp only [whenAwake, hr, fetchGrantStep, hc, State.grantOf, hh, fetchGrantWork,
    readBody_good .command key hs hp, Bool.false_eq_true, if_false, if_true]

/-! ## The tests of the other commands -/

theorem phraseNumberOk_false {n : Nat} (h : n = 0 ∨ 63 < n) : phraseNumberOk n = false := by
  rw [Bool.eq_false_iff]
  intro hn
  have := (destinationOk_iff n).mp hn
  omega

theorem phraseNumberOk_true {n : Nat} (h1 : 1 ≤ n) (h2 : n ≤ 63) : phraseNumberOk n = true :=
  (destinationOk_iff n).mpr ⟨h1, h2⟩

theorem textOk_iff (length : Nat) (codes : List Nat) :
    textOk length codes = true ↔ 1 ≤ length ∧ length ≤ 24 ∧ ∀ c ∈ codes, 0x20 ≤ c ∧ c ≤ 0x7E := by
  simp [textOk, and_assoc]

theorem definePhraseCommand_of_number (h : s.place 0 = 0 ∨ 63 < s.place 0) :
    definePhraseCommand s = refuse .fieldRange s := by
  simp [definePhraseCommand, phraseNumberOk_false h]

theorem definePhraseCommand_of_text (h1 : 1 ≤ s.place 0) (h2 : s.place 0 ≤ 63)
    (h : s.place 4 = 0 ∨ 24 < s.place 4 ∨ ∃ c ∈ s.stagedText, c < 0x20 ∨ 0x7E < c) :
    definePhraseCommand s = refuse .fieldRange s := by
  have ht : textOk (s.place 4) s.stagedText = false := by
    rw [Bool.eq_false_iff, ne_eq, textOk_iff]
    rintro ⟨hl, hu, hc⟩
    obtain h | h | ⟨c, hm, h⟩ := h
    · omega
    · omega
    · have := hc c hm
      omega
  simp [definePhraseCommand, phraseNumberOk_true h1 h2, ht]

theorem definePhraseCommand_of_retiring (h1 : 1 ≤ s.place 0) (h2 : s.place 0 ≤ 63)
    (ht : textOk (s.place 4) s.stagedText = true) (hp : (s.phrase (s.place 0)).state = .retiring) :
    definePhraseCommand s = refuse .phraseRetiring s := by
  simp [definePhraseCommand, phraseNumberOk_true h1 h2, ht, hp]

theorem retirePhraseCommand_of_number (h : s.place 0 = 0 ∨ 63 < s.place 0) :
    retirePhraseCommand s = refuse .fieldRange s := by
  simp [retirePhraseCommand, phraseNumberOk_false h]

theorem retirePhraseCommand_of_free (h1 : 1 ≤ s.place 0) (h2 : s.place 0 ≤ 63)
    (hp : (s.phrase (s.place 0)).state = .free) : retirePhraseCommand s = refuse .unknownPhrase s := by
  simp [retirePhraseCommand, phraseNumberOk_true h1 h2, hp]

theorem readPhraseCommand_of_number (h : s.place 0 = 0 ∨ 63 < s.place 0) :
    readPhraseCommand s = refuse .fieldRange s := by
  simp [readPhraseCommand, phraseNumberOk_false h]

theorem stagedView_none (h : 3 < s.place 0) : s.stagedView = none := dif_neg (by omega)

theorem stagedView_some (h : s.place 0 ≤ 3) : s.stagedView = some ⟨s.place 0, by omega⟩ := dif_pos (by omega)

/-- The fields of CONFIGURE VIEW but for the mode are in range (R75 step 2). -/
theorem configInRange_iff (s : State) : s.configInRange = true ↔
    (1 ≤ s.place 1 ∧ s.place 1 ≤ 63) ∧ (1 ≤ s.place 2 ∧ s.place 2 ≤ 63) ∧ s.place 4 % 16 ≠ 0 ∧ 1 ≤ s.place 6 ∧
      s.place 6 ≤ 16 ∧ 1 ≤ s.place 8 ∧ s.place 8 ≤ 60 ∧ 1 ≤ s.place 9 := by
  simp only [State.configInRange, Bool.and_eq_true, destinationOk_iff, bne_iff_ne, decide_eq_true_eq, and_assoc]

theorem modeOf_none : ∀ {n : Nat}, 2 < n → modeOf n = none
  | _ + 3, _ => rfl

/-- A staged configuration with its mode or another field out of range is none (R75). -/
theorem stagedConfig_none (h : 2 < s.place 7 ∨ ¬ s.configInRange = true) : s.stagedConfig = none := by
  unfold State.stagedConfig
  obtain h | h := h
  · rw [modeOf_none h]
  · split
    · rfl
    · exact if_neg h

theorem configureViewCommand_of_config (h : s.place 0 ≤ 3) (hc : s.stagedConfig = none) :
    configureViewCommand s = refuse .fieldRange s := by
  simp only [configureViewCommand, stagedView_some h, hc]

theorem shiftViewCommand_of_step (h : s.place 0 ≤ 3)
    (hs : 1 < s.place 16 ∨ s.place 17 = 0 ∨ 16 < s.place 17) : shiftViewCommand s = refuse .fieldRange s := by
  have hn : ¬ (s.place 16 ≤ 1 ∧ 1 ≤ s.place 17 ∧ s.place 17 ≤ 16) := by omega
  simp only [shiftViewCommand, stagedView_some h, if_neg hn]

theorem bankOf_none : ∀ {n : Nat}, 1 < n → bankOf n = none
  | _ + 2, _ => rfl

theorem disturbanceOf_none : ∀ {n : Nat}, 2 < n → disturbanceOf n = none
  | _ + 3, _ => rfl

theorem checkTestCommand_of_outOfRange (h : 1 < s.place 0 ∨ 2 < s.place 2) :
    checkTestCommand s = refuse .fieldRange s := by
  unfold checkTestCommand
  obtain h | h := h
  · rw [bankOf_none h]
  · rw [disturbanceOf_none h]
    split
    · next hk => exact nomatch hk
    · rfl

theorem setParameterCommand_of_freeNotice (hn : s.place 0 = 5) (h1 : 1 ≤ s.word 1) (h2 : s.word 1 ≤ 63)
    (hp : (s.phrase (s.word 1)).state = .free) : setParameterCommand s = refuse .unknownPhrase s := by
  have hz : s.word 1 ≠ 0 := by omega
  have ht : parameterTest 5 (s.word 1) s = some .unknownPhrase := by
    simp [parameterTest, paramInRange, h2, noticeTest, hz, hp]
  simp only [setParameterCommand, hn, ht]

end

/-! ## The obligations -/

/-- Settles O8: KEEPALIVE's completion is the qualifying one, and a command in flight turns its strobe into an
OVERRUN. -/
theorem keepaliveRestartsSilence : Obligations.KeepaliveRestartsSilence := by
  unfold Obligations.KeepaliveRestartsSilence
  refine ⟨fun s h => ?_, fun s h hc => exec_busy rfl h hc⟩
  have hk : acceptCommand (0x1A : Byte).toNat (struck s) = complete .ok none true (struck s) := rfl
  rw [exec_accepted h, hk, complete_portTaken s .ok none true h.2]
  rfl

/-- Settles O11, test by test along AMEND's order. -/
theorem amendTestsThenAsksForTheRecordsSlot : Obligations.AmendTestsThenAsksForTheRecordsSlot := by
  unfold Obligations.AmendTestsThenAsksForTheRecordsSlot
  refine ⟨fun s h hs => ?_, fun s e h hs ho hm hr hd hv hk hf => ?_⟩
  · have ends {rc : ResultCode} := ends_of_refuse (i := .amend) (rc := rc) h
    refine ⟨fun hr => ends (amendCommand_of_outOfRange hs hr), fun hm hr => ?_⟩
    have hin : AmendInRange (struck s) := ⟨hs, hm, hr⟩
    refine ⟨fun hsel hp => ends (amendCommand_of_destination hin hsel (phraseTest_free hp)),
      fun hsel hp => ends (amendCommand_of_destination hin hsel (phraseTest_retiring hp)), fun hd => ?_⟩
    refine ⟨fun v hsel hv => ⟨fun hp => ends (amendCommand_of_via hin hd hsel hv (phraseTest_free hp)),
      fun hp => ends (amendCommand_of_via hin hd hsel hv (phraseTest_retiring hp))⟩, fun hv ho => ?_⟩
    have hl : AmendReachesLookup (struck s) := ⟨hin, hd, hv, ho⟩
    exact ⟨fun hk => ends (amendCommand_of_unknownKey hl (lookupKey_none ho hk)),
      fun e hk hsel he => ends (amendCommand_of_departed hl ((lookupKey_open ho _).trans hk) hsel he)⟩
  · have hl : AmendReachesLookup (struck s) := ⟨⟨hs, hm, hr⟩, hd, hv, ho⟩
    exact asks_of_hold h rfl (amendCommand_of_found hl ((lookupKey_open ho _).trans hk) hf)

/-- A fetch command whose attempt finds a record asks for its slot's grant. -/
theorem attempt_asks {i : Instr} {b : Byte} {s : State} (how : Find) {e : Entry} (h : CommandReady b s)
    (ho : s.dir.isOpen = true) (hr : acceptCommand b.toNat (struck s) = beginAttempt how (struck s))
    (hf : findRecord how (struck s) = some e) (hi : AcceptedRow i b := by decide) :
    exec i s = .next (s.commandAsks (.fetch how e.key e.slot (s.dir.order.findIdx fun x => x.key == e.key))
      (some e.slot) e.key) :=
  asks_of_hold h rfl (hr.trans (beginAttempt_of_some how ho hf)) hi

/-- Settles O14: each fetch command's find claim is a read of the open Directory's order. -/
theorem fetchCommandsAskForTheRecordsSlot : Obligations.FetchCommandsAskForTheRecordsSlot := by
  unfold Obligations.FetchCommandsAskForTheRecordsSlot
  intro s e hs ho
  refine ⟨fun h hf => ?_, fun h hf => ?_, fun h hw hf => ?_⟩
  · exact attempt_asks (.byKey s.stagedKey) h ho (fetchCommand_of_serving hs)
      ((lookupKey_open ho _).trans hf)
  · exact attempt_asks (.byRank (s.word 18)) h ho (fetchRankCommand_of_serving hs)
      ((lookupRank_open ho _).trans hf)
  · exact attempt_asks (.after { time := s.word 2, key := s.word 0 }) h ho
      (findNextCommand_of_inRange hs hw) ((nextAfter_open ho _).trans hf)

/-- Settles O15: the read changes nothing, the re-check claim finds the record, and the completion's grant end moves
the port alone. -/
theorem fetchGrantReturnsTheRecord : Obligations.FetchGrantReturnsTheRecord := by
  unfold Obligations.FetchGrantReturnsTheRecord
  intro s how key slot rank r e hg hc hs ho hp he
  have ⟨_, hdeferred, _⟩ := hg
  have hstep := exec_fetchGrant_of_good hg hc hs hp
  rw [fetchRecheck_of_live .whole how r ho ((entryAt_open ho key slot).trans he)] at hstep
  exact ⟨_, hstep, completeGrant_port _ _ _ s, completeGrant_cmd _ _ _ s, completeGrant_dir _ _ _ s,
    completeGrant_phrases _ _ _ s, completeGrant_events _ _ _ s, completeGrant_store _ _ _ s,
    completeGrant_copies _ _ _ hdeferred, completeGrant_elsewhere _ _ _ s, completeGrant_ended _ _ _ s⟩

/-! ### The refusals of O16, by family -/

section

variable {s : State}

theorem records_end_notServing (hs : s.serving = false) (i : Instr) (b : Byte)
    (hi : i ∈ [.amend, .retire .whole, .retire .lookup, .fetch, .fetchRank, .findNext])
    (hb : commandByteOf i = some b) (h : CommandReady b s) : Ends i .notServing s := by
  simp only [List.mem_cons, List.not_mem_nil, or_false] at hi
  obtain rfl | rfl | rfl | rfl | rfl | rfl := hi <;> cases hb
  · exact ends_of_refuse h (amendCommand_of_notServing hs)
  · exact ends_of_refuse h (retireCommand_of_notServing hs)
  · exact ends_retireLookup h (retireLookup_of_notServing hs)
  · exact ends_of_refuse h (fetchCommand_of_notServing hs)
  · exact ends_of_refuse h (fetchRankCommand_of_notServing hs)
  · exact ends_of_refuse h (findNextCommand_of_notServing hs)

/-- A fetch command whose attempt finds nothing ends with its find claim's result. -/
theorem attempt_ends {i : Instr} {b : Byte} (how : Find) (h : CommandReady b s) (ho : s.dir.isOpen = true)
    (hr : acceptCommand b.toNat (struck s) = beginAttempt how (struck s))
    (hf : findRecord how (struck s) = none) (hi : AcceptedRow i b := by decide) : Ends i (nothingFound how) s :=
  ends_of_refuse h (hr.trans (beginAttempt_of_none how ho hf)) hi

theorem records_end_unknownKey (hs : s.serving = true) (ho : s.dir.isOpen = true) (i : Instr) (b : Byte)
    (hi : i ∈ [.retire .whole, .retire .lookup, .fetch]) (hb : commandByteOf i = some b) (h : CommandReady b s)
    (hk : ∀ e ∈ s.dir.order, e.key ≠ s.stagedKey) : Ends i .unknownKey s := by
  have hn := lookupKey_none ho hk
  simp only [List.mem_cons, List.not_mem_nil, or_false] at hi
  obtain rfl | rfl | rfl := hi <;> cases hb
  · exact ends_of_refuse h (retireCommand_of_unknownKey hs ho hn)
  · exact ends_retireLookup h (retireLookup_of_unknownKey hs ho hn)
  · exact attempt_ends (.byKey s.stagedKey) h ho (fetchCommand_of_serving hs) hn

theorem fetchRank_ends_noSuchRank (hs : s.serving = true) (ho : s.dir.isOpen = true) (h : CommandReady 0x05 s)
    (hk : s.dir.order.length ≤ s.word 18) : Ends .fetchRank .noSuchRank s :=
  attempt_ends (.byRank (s.word 18)) h ho (fetchRankCommand_of_serving hs)
    ((lookupRank_open ho _).trans (List.getElem?_eq_none hk))

theorem findNext_ends_endOfOrder (hs : s.serving = true) (ho : s.dir.isOpen = true) (h : CommandReady 0x06 s)
    (hw : s.word 2 ≤ 2879)
    (hn : ∀ e ∈ s.dir.order, posBefore { time := s.word 2, key := s.word 0 } (entryPos e) = false) :
    Ends .findNext .endOfOrder s :=
  attempt_ends (.after { time := s.word 2, key := s.word 0 }) h ho
    (findNextCommand_of_inRange hs hw) (nextAfter_none ho hn)

theorem phrases_end_fieldRange (i : Instr) (b : Byte) (hi : i ∈ [.definePhrase, .retirePhrase, .readPhrase])
    (hb : commandByteOf i = some b) (h : CommandReady b s) (hn : s.place 0 = 0 ∨ 63 < s.place 0) :
    Ends i .fieldRange s := by
  simp only [List.mem_cons, List.not_mem_nil, or_false] at hi
  obtain rfl | rfl | rfl := hi <;> cases hb
  · exact ends_of_refuse h (definePhraseCommand_of_number hn)
  · exact ends_of_refuse h (retirePhraseCommand_of_number hn)
  · exact ends_of_refuse h (readPhraseCommand_of_number hn)

theorem viewCommands_of_number (h : 3 < s.place 0) :
    configureViewCommand s = refuse .fieldRange s ∧ startViewCommand s = refuse .fieldRange s ∧
      stopViewCommand s = refuse .fieldRange s ∧ shiftViewCommand s = refuse .fieldRange s ∧
      readViewCommand s = refuse .fieldRange s := by
  simp only [configureViewCommand, startViewCommand, stopViewCommand, shiftViewCommand, readViewCommand,
    stagedView_none h, and_self]

theorem views_end_fieldRange (i : Instr) (b : Byte)
    (hi : i ∈ [.configureView, .startView, .stopView, .shiftView, .readView]) (hb : commandByteOf i = some b)
    (h : CommandReady b s) (hn : 3 < s.place 0) : Ends i .fieldRange s := by
  obtain ⟨configure, start, stop, shift, read⟩ := viewCommands_of_number (s := struck s) hn
  simp only [List.mem_cons, List.not_mem_nil, or_false] at hi
  obtain rfl | rfl | rfl | rfl | rfl := hi <;> cases hb
  · exact ends_of_refuse h configure
  · exact ends_of_refuse h start
  · exact ends_of_refuse h stop
  · exact ends_of_refuse h shift
  · exact ends_of_refuse h read

theorem configureView_ends_fieldRange (h : CommandReady 0x10 s) (hv : s.place 0 ≤ 3)
    (hf : s.place 1 = 0 ∨ 63 < s.place 1 ∨ s.place 2 = 0 ∨ 63 < s.place 2 ∨ s.place 4 % 16 = 0 ∨ s.place 6 = 0 ∨
      16 < s.place 6 ∨ 2 < s.place 7 ∨ s.place 8 = 0 ∨ 60 < s.place 8 ∨ s.place 9 = 0) :
    Ends .configureView .fieldRange s := by
  have hc : s.stagedConfig = none := by
    apply stagedConfig_none
    rw [configInRange_iff]
    omega
  exact ends_of_refuse h (configureViewCommand_of_config hv hc)

end

/-- Settles O16, family by family. -/
theorem refusedCommandsChangeOnlyTheResult : Obligations.RefusedCommandsChangeOnlyTheResult := by
  unfold Obligations.RefusedCommandsChangeOnlyTheResult
  intro s
  refine ⟨?notServing, ?served, phrases_end_fieldRange, ?define, ?retirePhrase, views_end_fieldRange,
    configureView_ends_fieldRange, ?shift, ?checkTest, ?parameter⟩
  case notServing => exact fun i b hi hb h hs => records_end_notServing hs i b hi hb h
  case served =>
    exact fun hs ho => ⟨records_end_unknownKey hs ho, fetchRank_ends_noSuchRank hs ho,
      fun h hw => ends_of_refuse h (findNextCommand_of_late hs hw),
      findNext_ends_endOfOrder hs ho⟩
  case define =>
    exact fun h h1 h2 => ⟨fun hf => ends_of_refuse h (definePhraseCommand_of_text h1 h2 hf),
      fun hl hu hc hp => ends_of_refuse h
        (definePhraseCommand_of_retiring h1 h2 ((textOk_iff _ _).mpr ⟨hl, hu, hc⟩) hp)⟩
  case retirePhrase => exact fun h h1 h2 hp => ends_of_refuse h (retirePhraseCommand_of_free h1 h2 hp)
  case shift => exact fun h hv hf => ends_of_refuse h (shiftViewCommand_of_step hv hf)
  case checkTest => exact fun h hf => ends_of_refuse h (checkTestCommand_of_outOfRange hf)
  case parameter =>
    exact fun h hn h1 h2 _ hp => ends_of_refuse h (setParameterCommand_of_freeNotice hn h1 h2 hp)

end Sys2Proof.Proofs.RecordCommands


/-!
PROOFS. The Phrase Table's commands and the change of a parameter: DEFINE PHRASE, RETIRE PHRASE, READ PHRASE and SET
PARAMETER. Each completes in the step that accepts it (log 21), so its row is the state change it makes and the port
after a completion.
-/

namespace Sys2Proof.Proofs.PhraseTable

open Sys2Proof Sys2Proof.Machine Sys2Proof.Proofs.RecordCommands

section

variable {s : State} {n v : Nat}

/-! ## A phrase command that is served -/

/-- A command row that is ready, and whose command puts one phrase entry and completes OK. -/
theorem exec_putsPhrase {i : Instr} {b : Byte} {p : Phrase} {out : Option (List Byte)} (h : CommandReady b s)
    (hr : acceptCommand b.toNat (struck s) = done out false ((struck s).setPhrase n p))
    (hi : AcceptedRow i b := by decide) :
    exec i s = .next ((s.setPhrase n p).onlyPort (portAfter s.port .ok out false)) := by
  rw [exec_accepted h hi, hr]
  exact congrArg _ (done_portTaken s out false h.2 (State.setPhrase · n p) (setPhrase_setPort n p · s)
    (setPhrase_cmd n p s))

theorem definePhraseCommand_of_ok (h1 : 1 ≤ s.place 0) (h2 : s.place 0 ≤ 63)
    (ht : textOk (s.place 4) s.stagedText = true) (hp : (s.phrase (s.place 0)).state ≠ .retiring) :
    definePhraseCommand s = done none false
      (s.setPhrase (s.place 0) (definedPhrase (s.phrase (s.place 0)) (s.stagedText.map byteOf))) := by
  simp [definePhraseCommand, phraseNumberOk_true h1 h2, ht, hp]

theorem retirePhraseCommand_of_ok (h1 : 1 ≤ s.place 0) (h2 : s.place 0 ≤ 63)
    (hp : (s.phrase (s.place 0)).state ≠ .free) :
    retirePhraseCommand s =
      done (some (phraseStateBytes (s.place 0) (retiredPhrase (s.phrase (s.place 0))))) false
        (s.setPhrase (s.place 0) (retiredPhrase (s.phrase (s.place 0)))) := by
  simp [retirePhraseCommand, phraseNumberOk_true h1 h2, hp]

theorem readPhraseCommand_of_ok (h1 : 1 ≤ s.place 0) (h2 : s.place 0 ≤ 63) :
    readPhraseCommand s = done (some (phraseBytes (s.place 0) (s.phrase (s.place 0)))) false s := by
  simp [readPhraseCommand, phraseNumberOk_true h1 h2]

theorem exec_readPhrase (h : CommandReady 0x0A s) (h1 : 1 ≤ s.place 0) (h2 : s.place 0 ≤ 63) :
    exec .readPhrase s = .next (s.onlyPort (portAfter s.port .ok
      (some (phraseBytes (s.place 0) (s.phrase (s.place 0)))) false)) := by
  have hr : acceptCommand (0x0A : Byte).toNat (struck s) =
      done (some (phraseBytes (s.place 0) (s.phrase (s.place 0)))) false (struck s) :=
    readPhraseCommand_of_ok (s := struck s) h1 h2
  rw [exec_accepted h, hr]
  exact congrArg _ (complete_portTaken s .ok _ false h.2)

/-! ## The entry after RETIRE PHRASE (R49) -/

section

variable {p : Phrase}

theorem retiredPhrase_unused (hs : p.state = .defined) (hc : p.count = 0) : retiredPhrase p = freePhrase := by
  simp only [retiredPhrase, hs, hc, if_true]

theorem retiredPhrase_referenced (hs : p.state = .defined) (hc : p.count ≠ 0) :
    retiredPhrase p = { p with state := .retiring } := by
  simp only [retiredPhrase, hs, hc, if_false]

theorem retiredPhrase_retiring (hs : p.state = .retiring) : retiredPhrase p = p := by
  simp only [retiredPhrase, hs]

end

/-! ## The tests of SET PARAMETER (R53, R159) -/

theorem parameterTest_outOfRange (h : paramInRange n v = false) (s : State) :
    parameterTest n v s = some .fieldRange := by
  simp [parameterTest, h]

/-- The range is the only test of a parameter other than the notice phrase. -/
theorem parameterTest_inRange (hn : n ≠ 5) (h : paramInRange n v = true) (s : State) : parameterTest n v s = none := by
  simp [parameterTest, h, hn]

theorem parameterTest_notice (h : v ≤ 63) (s : State) : parameterTest 5 v s = noticeTest v s := by
  simp [parameterTest, paramInRange, h]

theorem noticeTest_defined (h : PhraseDefined s v) : noticeTest v s = none := by
  have hd : (s.phrase v).state = .defined := h
  simp only [noticeTest, hd, ite_self]

theorem noticeTest_retiring (h1 : 1 ≤ v) (h : (s.phrase v).state = .retiring) :
    noticeTest v s = some .phraseRetiring := by
  simp only [noticeTest, h, if_neg (show ¬ v = 0 by omega)]

/-! ## What SET PARAMETER's row does, by its tests -/

/-- The state in which the parameter's owner acts: right after the strobe, with the value stored. -/
def parameterStored (n v : Nat) (s : State) : State := (struck s).setParams (s.params.put n v)

theorem setParameter_ends {rc : ResultCode} (h : CommandReady 0x28 s) (hn : s.place 0 = n) (hv : s.word 1 = v)
    (ht : parameterTest n v s = some rc) : Ends .setParameter rc s := by
  subst hn hv
  have ht' : parameterTest ((struck s).place 0) ((struck s).word 1) (struck s) = some rc := ht
  have hr : setParameterCommand (struck s) = refuse rc (struck s) := by simp only [setParameterCommand, ht']
  exact ends_of_refuse h hr

/-- A completion with OK that writes no outputs changes the result code alone. -/
theorem done_quiet (h : s.cmd = none) : done none false s = s.onlyPort { s.port with lastResult := .ok } := by
  apply State.ext <;> simp [done, complete, outputStaging, State.onlyPort, h]

/-- A SET PARAMETER that passes its tests stores the value, and its owner acts. -/
theorem setParameter_acts {t : State} (h : CommandReady 0x28 s) (hn : s.place 0 = n) (hv : s.word 1 = v)
    (ht : parameterTest n v s = none) (hf : followParameter n (s.params.value n) v (parameterStored n v s) = t) :
    exec .setParameter s = .next (t.onlyPort { t.port with lastResult := .ok }) := by
  subst hn hv
  have ht' : parameterTest ((struck s).place 0) ((struck s).word 1) (struck s) = none := ht
  have hr : setParameterCommand (struck s) = done none false t := by
    simp only [setParameterCommand, ht']
    exact congrArg _ hf
  have hc : t.cmd = none := by
    rw [← hf, followParameter_cmd, parameterStored, setParams_cmd]
    exact h.2
  rw [exec_accepted h]
  exact congrArg _ (hr.trans (done_quiet hc))

/-! ## What the owners do (R53, R143, R146, R158) -/

/-- Most parameters have an owner that does nothing as their value changes. -/
theorem followParameter_idle (h : n ∈ [0, 1, 2, 4, 7, 10]) (old new : Nat) (s : State) :
    followParameter n old new s = s := by
  simp only [List.mem_cons, List.not_mem_nil, or_false] at h
  obtain rfl | rfl | rfl | rfl | rfl | rfl := h <;> rfl

theorem followParameter_sweepRange (h : n = 8 ∨ n = 9) (old new : Nat) (s : State) :
    followParameter n old new s = followSweepRange s := by
  obtain rfl | rfl := h <;> rfl

theorem followSweepEnable_same {old : Nat} (h : s.params.sweepEnable = old) : followSweepEnable old s = s := if_pos h

theorem followSweepEnable_on (h : s.params.sweepEnable = 1) : followSweepEnable 0 s = startSweep s := by
  simp [followSweepEnable, h]

theorem followSweepEnable_off (h : s.params.sweepEnable = 0) : followSweepEnable 1 s = stopSweep s := by
  simp [followSweepEnable, h]

theorem startSweep_runs (he : s.params.sweepEnable = 1) (hs : sweepRunsIn s.store.state = true) :
    startSweep s = setSweepTimer s := by
  simp [startSweep, State.sweepRuns, he, hs]

theorem startSweep_waits (hs : sweepRunsIn s.store.state = false) : startSweep s = s := by
  simp [startSweep, State.sweepRuns, hs]

theorem changeNotice_same (old : Nat) (s : State) : changeNotice old old s = s := if_pos rfl

theorem changeNotice_new {old new : Nat} (h : new ≠ old) (hn : new ≠ 0) (s : State) :
    changeNotice old new s = if old = 0 then takePhrase new s else releasePhrase old (takePhrase new s) := by
  simp only [changeNotice, if_neg h, if_neg hn]

theorem changeNotice_none (old : Nat) (s : State) :
    changeNotice old 0 s = if old = 0 then s else releasePhrase old s := by
  by_cases h : old = 0
  · simp [changeNotice, h]
  · simp [changeNotice, h, Ne.symm h]

/-- The change of the notice phrase neither reads nor touches the Control Port. -/
theorem changeNotice_setPort (old new : Nat) (p : ControlPort) (s : State) :
    changeNotice old new (s.setPort p) = (changeNotice old new s).setPort p := by
  simp only [changeNotice]
  split_ifs <;> simp only [takePhrase_setPort, releasePhrase_setPort]

/-- The change of the notice phrase reaches the phrases and the events alone. -/
theorem changeNotice_eq (old new : Nat) (s : State) :
    changeNotice old new s =
      { s with phrases := (changeNotice old new s).phrases, events := (changeNotice old new s).events } := by
  apply State.ext <;> simp

/-- A take raises no event, so where no phrase is released the events stay. -/
theorem events_of_take (old new : Nat) (s t : State) :
    (if old = 0 then takePhrase new s else t).events = (if old = 0 then s else t).events := by
  split
  · exact takePhrase_events new s
  · rfl

/-- SET PARAMETER naming P5, once its tests are passed: the change of the notice phrase, and the value stored. -/
theorem setParameter_notice (h : CommandReady 0x28 s) (hn : s.place 0 = 5) (hv : s.word 1 = v)
    (ht : parameterTest 5 v s = none) {t : State} (hc : changeNotice s.params.noticePhrase v s = t) :
    exec .setParameter s = .next { s with
      port := { portTaken s.port with lastResult := .ok, params := s.params.put 5 v }
      phrases := t.phrases
      events := t.events } := by
  have hf : followParameter 5 (s.params.value 5) v (parameterStored 5 v s) =
      t.setPort { portTaken s.port with params := s.params.put 5 v } := by
    rw [← hc]
    exact changeNotice_setPort s.params.noticePhrase v _ s
  rw [setParameter_acts h hn hv ht hf, ← hc, changeNotice_eq]
  rfl

end

/-! ## The obligations -/

/-- Settles O18: each command is one entry put, or none, and a completion. -/
theorem phraseCommandsDefineRetireAndReport : Obligations.PhraseCommandsDefineRetireAndReport := by
  unfold Obligations.PhraseCommandsDefineRetireAndReport
  refine ⟨?define, fun s n hn h1 h2 => ⟨?retire, ?read⟩⟩
  case define =>
    rintro s _ h rfl h1 h2 hl hu hc hp
    exact exec_putsPhrase h (definePhraseCommand_of_ok (s := struck s) h1 h2 ((textOk_iff _ _).mpr ⟨hl, hu, hc⟩) hp)
  case retire =>
    subst hn
    exact fun h hp => ⟨retiredPhrase (s.phrase (s.place 0)), fun ⟨hs, hc⟩ => retiredPhrase_unused hs hc,
      fun ⟨hs, hc⟩ => retiredPhrase_referenced hs hc, retiredPhrase_retiring,
      exec_putsPhrase h (retirePhraseCommand_of_ok (s := struck s) h1 h2 hp)⟩
  case read =>
    subst hn
    exact fun h => exec_readPhrase h h1 h2

/-- Settles O43, owner by owner. -/
theorem setParameterStoresTheValueAndActs : Obligations.SetParameterStoresTheValueAndActs := by
  unfold Obligations.SetParameterStoresTheValueAndActs
  refine ⟨fun s n v h hn hv => ⟨?outOfRange, ?idle, ?silence, ?range⟩,
    fun s n v h hn hv => ⟨?starts, ?waits, ?stops, ?enableSame, ?notice, ?noticeSame, ?noticeRetiring, ?noticeNone⟩⟩
  case outOfRange => exact fun hr => setParameter_ends h hn hv (parameterTest_outOfRange hr s)
  case idle =>
    intro hr hm
    have h5 : n ≠ 5 := by
      rintro rfl
      exact absurd hm (by decide)
    exact setParameter_acts h hn hv (parameterTest_inRange h5 hr s) (followParameter_idle hm _ _ _)
  case silence =>
    rintro hr rfl
    exact setParameter_acts h hn hv (parameterTest_inRange (by decide) hr s) rfl
  case range =>
    intro hr hm
    exact setParameter_acts h hn hv (parameterTest_inRange (by omega) hr s) (followParameter_sweepRange hm _ _ _)
  case starts =>
    rintro rfl rfl he hs
    have hf : followSweepEnable s.params.sweepEnable (parameterStored 6 1 s) =
        setSweepTimer (parameterStored 6 1 s) := by
      rw [he, followSweepEnable_on rfl]
      exact startSweep_runs rfl hs
    exact setParameter_acts h hn hv (parameterTest_inRange (by decide) rfl s) hf
  case waits =>
    rintro rfl rfl he hs
    have hf : followSweepEnable s.params.sweepEnable (parameterStored 6 1 s) = parameterStored 6 1 s := by
      rw [he, followSweepEnable_on rfl]
      exact startSweep_waits hs
    exact setParameter_acts h hn hv (parameterTest_inRange (by decide) rfl s) hf
  case stops =>
    rintro rfl rfl he
    have hf : followSweepEnable s.params.sweepEnable (parameterStored 6 0 s) = stopSweep (parameterStored 6 0 s) := by
      rw [he, followSweepEnable_off rfl]
    exact setParameter_acts h hn hv (parameterTest_inRange (by decide) rfl s) hf
  case enableSame =>
    rintro rfl hle he
    have hr : paramInRange 6 v = true := decide_eq_true hle
    have hf : followSweepEnable s.params.sweepEnable (parameterStored 6 v s) = parameterStored 6 v s :=
      followSweepEnable_same he.symm
    exact setParameter_acts h hn hv (parameterTest_inRange (by decide) hr s) hf
  case notice =>
    rintro rfl h1 h2 hne hd
    have ht : parameterTest 5 v s = none := (parameterTest_notice h2 s).trans (noticeTest_defined hd)
    have hmove := setParameter_notice h hn hv ht (changeNotice_new hne (by omega) s)
    rwa [events_of_take] at hmove
  case noticeSame =>
    rintro rfl _ h2 hs hd
    have ht : parameterTest 5 v s = none := (parameterTest_notice h2 s).trans (noticeTest_defined hd)
    have hc : changeNotice s.params.noticePhrase v s = s := by rw [hs, changeNotice_same]
    exact setParameter_notice h hn hv ht hc
  case noticeRetiring =>
    rintro rfl h1 h2 hp
    exact setParameter_ends h hn hv ((parameterTest_notice h2 s).trans (noticeTest_retiring h1 hp))
  case noticeNone =>
    rintro rfl rfl
    exact setParameter_notice h hn hv (parameterTest_notice (Nat.zero_le _) s) (changeNotice_none _ s)

end Sys2Proof.Proofs.PhraseTable


/-!
PROOFS. The law of the Service Clock (R56, R58, R60, R69). The law reads the clock, the Retirement Unit and whether NEW
DAY is in flight, and nothing else. Only SET CLOCK, NEW DAY with its visits, a minute boundary and a step of a
retirement pass change the first two; every other command and row keeps them, and ends or begins no NEW DAY.
-/

namespace Sys2Proof.Proofs.KeepsClockLaw

open Sys2Proof Sys2Proof.Machine

/-! ## What the law reads -/

/-- The command in flight is a NEW DAY. -/
def dayInFlight : Option InFlight → Bool
  | some (.newDay _) => true
  | _ => false

theorem dayInFlight_iff (cmd : Option InFlight) : dayInFlight cmd = true ↔ ∃ d, cmd = some (.newDay d) := by
  constructor
  · intro h
    unfold dayInFlight at h
    split at h
    · exact ⟨_, rfl⟩
    · cases h
  · rintro ⟨d, rfl⟩
    rfl

/-- The Service Clock and the Retirement Unit stand as given, and NEW DAY is in flight or not as given. -/
structure ClockAt (c : ServiceClock) (r : RetirementUnit) (day : Bool) (s : State) : Prop where
  clock : s.clock = c
  retire : s.retire = r
  day : dayInFlight s.cmd = day

/-- `ClockLaw` of the three things that it reads. -/
structure LawAt (c : ServiceClock) (r : RetirementUnit) (day : Bool) : Prop where
  seconds : c.seconds < 60
  minute : c.minute ≤ 2879
  hold : c.hold = day
  noPass : day = true → r.pass = none

section

variable {c : ServiceClock} {r : RetirementUnit} {day : Bool} {s t : State}

theorem ClockAt.here (s : State) : ClockAt s.clock s.retire (dayInFlight s.cmd) s := ⟨rfl, rfl, rfl⟩

theorem ClockAt.of_cmd {cmd : Option InFlight} (h : s.cmd = cmd) : ClockAt s.clock s.retire (dayInFlight cmd) s :=
  h ▸ here s

theorem clockLaw_iff (s : State) : ClockLaw s ↔ LawAt s.clock s.retire (dayInFlight s.cmd) := by
  constructor
  · rintro ⟨hs, hm, hd, hp⟩
    have hold : s.clock.hold = dayInFlight s.cmd := Bool.eq_iff_iff.mpr (hd.trans (dayInFlight_iff _).symm)
    exact ⟨hs, hm, hold, fun h => hp (hold.trans h)⟩
  · rintro ⟨hs, hm, hold, hp⟩
    refine ⟨hs, hm, ?_, fun h => hp (hold.symm.trans h)⟩
    rw [hold, dayInFlight_iff]

theorem LawAt.law (hl : LawAt c r day) (h : ClockAt c r day s) : ClockLaw s := by
  obtain ⟨rfl, rfl, rfl⟩ := h
  exact (clockLaw_iff s).mpr hl

/-- A state that agrees with a lawful one in what the law reads is lawful. -/
theorem ClockAt.keeps (h : ClockAt s.clock s.retire (dayInFlight s.cmd) t) (hs : ClockLaw s) : ClockLaw t :=
  ((clockLaw_iff s).mp hs).law h

/-! ## What keeps the clock, the Retirement Unit and NEW DAY -/

namespace ClockAt

/-- An operation whose frame takes in the clock, the Retirement Unit and the command in flight. -/
theorem framed (h : ClockAt c r day s) (hc : t.clock = s.clock := by simp) (hr : t.retire = s.retire := by simp)
    (hm : t.cmd = s.cmd := by simp) : ClockAt c r day t :=
  ⟨hc.trans h.clock, hr.trans h.retire, (congrArg dayInFlight hm).trans h.day⟩

theorem complete (h : ClockAt c r day s) (rc : ResultCode) (out : Option (List Byte)) (q : Bool) :
    ClockAt c r false (complete rc out q s) := ⟨h.clock, h.retire, rfl⟩

theorem refuse (h : ClockAt c r day s) (rc : ResultCode) : ClockAt c r false (refuse rc s) := h.complete rc none false

theorem done (h : ClockAt c r day s) (out : Option (List Byte)) (q : Bool) : ClockAt c r false (done out q s) :=
  h.complete .ok out q

theorem endGrant (h : ClockAt c r day s) : ClockAt c r day (endGrant s) := h.framed

theorem completeGrant (h : ClockAt c r day s) (rc : ResultCode) (out : Option (List Byte)) (q : Bool) :
    ClockAt c r false (completeGrant rc out q s) := (h.complete rc out q).endGrant

theorem refuseGrant (h : ClockAt c r day s) (rc : ResultCode) : ClockAt c r false (refuseGrant rc s) :=
  (h.refuse rc).endGrant

theorem setCmd (h : ClockAt c r day s) {cmd : InFlight} {day' : Bool} (hd : dayInFlight (some cmd) = day' := by rfl) :
    ClockAt c r day' (s.setCmd (some cmd)) := ⟨h.clock, h.retire, hd⟩

theorem holdForGrant (h : ClockAt c r day s) {cmd : InFlight} {day' : Bool}
    (hd : dayInFlight (some cmd) = day' := by rfl) : ClockAt c r day' (holdForGrant cmd s) :=
  (h.setCmd hd).framed (requestPort_clock _ _) (requestPort_retire _ _) (requestPort_cmd _ _)

theorem setProgress (h : ClockAt c r day s) (g : Grant) (p : Progress) : ClockAt c r day (setProgress g p s) := h.framed

theorem removeEntry (h : ClockAt c r day s) (e : Entry) : ClockAt c r day (removeEntry e s) := h.framed

section

variable {op : Operation} {slot key : Nat}

theorem readPrimary (h : ClockAt c r day s) {a : ReadAnswer} (ha : readPrimary op slot key s = a) :
    ClockAt c r day a.after := ha ▸ h.framed

theorem readMirrored (h : ClockAt c r day s) {a : ReadAnswer} (ha : readMirrored op slot key s = a) :
    ClockAt c r day a.after := ha ▸ h.framed

theorem readBody (h : ClockAt c r day s) {a : ReadAnswer} (ha : readBody op slot key s = a) :
    ClockAt c r day a.after := ha ▸ h.framed

theorem writeBody (h : ClockAt c r day s) {b : RecordBody} {a : WriteAnswer} (ha : writeBody op slot b s = a) :
    ClockAt c r day a.after := ha ▸ h.framed

theorem insertClaim (h : ClockAt c r day s) {e : Entry} {rank : Nat} (ha : insertClaim e s = .served rank t) :
    ClockAt c r day t := h.framed (insertClaim_clock ha) (insertClaim_retire ha) (insertClaim_cmd ha)

theorem updateClaim (h : ClockAt c r day s) {e : Entry} {rank : Nat} (ha : updateClaim key slot e s = .served rank t) :
    ClockAt c r day t := h.framed (updateClaim_clock ha) (updateClaim_retire ha) (updateClaim_cmd ha)

end

/-! ## The commands (R155) -/

theorem addCommand (h : ClockAt c r day s) : ClockAt c r false (addCommand s) := by
  unfold Machine.addCommand
  repeat' split
  any_goals exact h.refuse _
  exact h.holdForGrant

theorem amendCommand (h : ClockAt c r day s) : ClockAt c r false (amendCommand s) := by
  unfold Machine.amendCommand
  repeat' split
  any_goals exact h.refuse _
  exact h.holdForGrant

theorem retireCommand (h : ClockAt c r day s) : ClockAt c r false (retireCommand s) := by
  unfold Machine.retireCommand
  repeat' split
  any_goals exact h.refuse _
  exact (h.removeEntry _).done _ _

theorem retireLookup (h : ClockAt c r day s) : ClockAt c r false (retireLookup s) := by
  unfold Machine.retireLookup
  repeat' split
  any_goals exact h.refuse _
  exact h.setCmd

theorem beginAttempt (h : ClockAt c r day s) (how : Find) : ClockAt c r false (beginAttempt how s) := by
  unfold Machine.beginAttempt
  repeat' split
  any_goals exact h.refuse _
  exact h.holdForGrant

theorem fetchCommand (h : ClockAt c r day s) : ClockAt c r false (fetchCommand s) := by
  unfold Machine.fetchCommand
  split
  · exact h.refuse _
  · exact h.beginAttempt _

theorem fetchRankCommand (h : ClockAt c r day s) : ClockAt c r false (fetchRankCommand s) := by
  unfold Machine.fetchRankCommand
  split
  · exact h.refuse _
  · exact h.beginAttempt _

theorem findNextCommand (h : ClockAt c r day s) : ClockAt c r false (findNextCommand s) := by
  unfold Machine.findNextCommand
  repeat' split
  any_goals exact h.refuse _
  exact h.beginAttempt _

theorem definePhraseCommand (h : ClockAt c r day s) : ClockAt c r false (definePhraseCommand s) := by
  unfold Machine.definePhraseCommand
  simp only
  repeat' split
  any_goals exact h.refuse _
  exact ClockAt.done h.framed _ _

theorem retirePhraseCommand (h : ClockAt c r day s) : ClockAt c r false (retirePhraseCommand s) := by
  unfold Machine.retirePhraseCommand
  simp only
  repeat' split
  any_goals exact h.refuse _
  exact ClockAt.done h.framed _ _

theorem readPhraseCommand (h : ClockAt c r day s) : ClockAt c r false (readPhraseCommand s) := by
  unfold Machine.readPhraseCommand
  simp only
  split
  · exact h.refuse _
  · exact h.done _ _

theorem configureViewCommand (h : ClockAt c r day s) : ClockAt c r false (configureViewCommand s) := by
  unfold Machine.configureViewCommand
  repeat' split
  any_goals exact h.refuse _
  exact ClockAt.done h.framed _ _

theorem startViewCommand (h : ClockAt c r day s) : ClockAt c r false (startViewCommand s) := by
  unfold Machine.startViewCommand
  split
  · exact h.refuse _
  · exact ClockAt.done h.framed _ _

theorem stopViewCommand (h : ClockAt c r day s) : ClockAt c r false (stopViewCommand s) := by
  unfold Machine.stopViewCommand
  repeat' split
  · exact h.refuse _
  · exact h.done _ _
  · exact ClockAt.done h.framed _ _

theorem shiftViewCommand (h : ClockAt c r day s) : ClockAt c r false (shiftViewCommand s) := by
  unfold Machine.shiftViewCommand
  split
  · exact h.refuse _
  · split
    · exact ClockAt.done h.framed _ _
    · exact h.refuse _

theorem readViewCommand (h : ClockAt c r day s) : ClockAt c r false (readViewCommand s) := by
  unfold Machine.readViewCommand
  split
  · exact h.refuse _
  · exact h.done _ _

theorem setStoreStateCommand (h : ClockAt c r day s) : ClockAt c r false (setStoreStateCommand s) := by
  unfold Machine.setStoreStateCommand
  repeat' split
  any_goals exact h.refuse _
  exact h.holdForGrant

theorem checkTestCommand (h : ClockAt c r day s) : ClockAt c r false (checkTestCommand s) := by
  unfold Machine.checkTestCommand
  split
  · exact h.holdForGrant
  · exact h.refuse _

theorem setParameterCommand (h : ClockAt c r day s) : ClockAt c r false (setParameterCommand s) := by
  unfold Machine.setParameterCommand
  simp only
  split
  · exact h.refuse _
  · exact ClockAt.done h.framed _ _

theorem readParameterCommand (h : ClockAt c r day s) : ClockAt c r false (readParameterCommand s) := by
  unfold Machine.readParameterCommand
  simp only
  split
  · exact h.done _ _
  · exact h.refuse _

theorem clearEventsCommand (h : ClockAt c r day s) : ClockAt c r false (clearEventsCommand s) := by
  unfold Machine.clearEventsCommand
  split
  · exact h.refuse _
  · exact ClockAt.done h.framed _ _

theorem setMasksCommand (h : ClockAt c r day s) : ClockAt c r false (setMasksCommand s) := by
  unfold Machine.setMasksCommand
  split
  · exact ClockAt.done h.framed _ _
  · exact h.refuse _

theorem readCaptureCommand (h : ClockAt c r day s) : ClockAt c r false (readCaptureCommand s) := by
  unfold Machine.readCaptureCommand
  split
  · exact h.done _ _
  · exact h.done _ _
  · exact h.refuse _

theorem clearCaptureCommand (h : ClockAt c r day s) : ClockAt c r false (clearCaptureCommand s) := by
  unfold Machine.clearCaptureCommand
  split
  · exact ClockAt.done h.framed _ _
  · exact ClockAt.done h.framed _ _
  · exact ClockAt.done h.framed _ _
  · exact h.refuse _

theorem abandonAll (h : ClockAt c r day s) : ClockAt c r day (abandonAll s) := by
  unfold Machine.abandonAll
  exact h.framed

theorem restartCommand (h : ClockAt c r day s) : ClockAt c r false (restartCommand s) := by
  unfold Machine.restartCommand
  simp only
  exact ClockAt.done h.abandonAll.framed _ _

/-- A command other than SET CLOCK and NEW DAY, at its acceptance. -/
theorem acceptCommand (h : ClockAt c r day s) {n : Nat} (hset : n ≠ 0x18) (hday : n ≠ 0x19) :
    ClockAt c r false (acceptCommand n s) := by
  unfold Machine.acceptCommand
  split
  · exact h.addCommand
  · exact h.amendCommand
  · exact h.retireCommand
  · exact h.fetchCommand
  · exact h.fetchRankCommand
  · exact h.findNextCommand
  · exact h.definePhraseCommand
  · exact h.retirePhraseCommand
  · exact h.readPhraseCommand
  · exact h.configureViewCommand
  · exact h.startViewCommand
  · exact h.stopViewCommand
  · exact h.shiftViewCommand
  · exact h.readViewCommand
  · exact absurd rfl hset
  · exact absurd rfl hday
  · exact h.done none true
  · exact h.setStoreStateCommand
  · exact h.done _ _
  · exact h.checkTestCommand
  · exact h.setParameterCommand
  · exact h.readParameterCommand
  · exact h.done _ _
  · exact h.clearEventsCommand
  · exact h.readCaptureCommand
  · exact h.clearCaptureCommand
  · exact h.setMasksCommand
  · exact h.restartCommand
  · exact h.refuse _

/-! ## The grants -/

theorem addInsert (h : ClockAt c r day s) (slot : Nat) (b : RecordBody) : ClockAt c r false (addInsert slot b s) := by
  unfold Machine.addInsert
  split
  case h_1 ha => exact (h.insertClaim ha).completeGrant _ _ _
  all_goals exact h.refuseGrant _

theorem addGrantWork (h : ClockAt c r false s) (x : Extent) (g : Grant) (slot : Nat) :
    ClockAt c r false (addGrantWork x g slot s) := by
  unfold Machine.addGrantWork
  split
  · exact h.addInsert _ _
  · exact h
  · split <;> rename_i ha
    · exact (h.writeBody ha).refuseGrant _
    · exact (h.writeBody ha).refuseGrant _
    · cases x
      · exact (h.writeBody ha).addInsert _ _
      · exact (h.writeBody ha).setProgress _ _

theorem amendUpdate (h : ClockAt c r day s) (key slot : Nat) (b : RecordBody) :
    ClockAt c r false (amendUpdate key slot b s) := by
  unfold Machine.amendUpdate
  split
  case h_1 ha => exact (h.updateClaim ha).completeGrant _ _ _
  all_goals exact h.refuseGrant _

theorem amendWrite (h : ClockAt c r false s) (x : Extent) (g : Grant) (key slot : Nat) (b : RecordBody) :
    ClockAt c r false (amendWrite x g key slot b s) := by
  unfold Machine.amendWrite
  split <;> rename_i ha
  · exact (h.writeBody ha).refuseGrant _
  · exact (h.writeBody ha).refuseGrant _
  · cases x
    · exact (h.writeBody ha).amendUpdate _ _ _
    · exact (h.writeBody ha).setProgress _ _

theorem amendGrantWork (h : ClockAt c r false s) (x : Extent) (g : Grant) (key slot : Nat) :
    ClockAt c r false (amendGrantWork x g key slot s) := by
  unfold Machine.amendGrantWork
  split
  · exact h.amendUpdate _ _ _
  · exact h
  · split <;> rename_i ha
    · exact (h.readBody ha).amendWrite _ _ _ _ _
    all_goals exact (h.readBody ha).refuseGrant _

theorem attemptAnew (h : ClockAt c r day s) (x : Extent) (how : Find) (key slot : Nat) :
    ClockAt c r false (attemptAnew x how key slot s) := by
  have hend : ClockAt c r false (Machine.endGrant (s.setCmd (some (.refetch how key slot)))) := h.setCmd.endGrant
  cases x
  · exact hend.beginAttempt how
  · exact hend

theorem attemptFailed (h : ClockAt c r day s) (x : Extent) (how : Find) (key slot : Nat) :
    ClockAt c r false (attemptFailed x how key slot s) := by
  cases how
  · exact h.refuseGrant _
  · exact h.attemptAnew _ _ _ _
  · exact h.attemptAnew _ _ _ _

theorem fetchRecheck (h : ClockAt c r day s) (x : Extent) (how : Find) (key slot : Nat) (b : RecordBody) :
    ClockAt c r false (fetchRecheck x how key slot b s) := by
  unfold Machine.fetchRecheck
  split
  · exact h.refuseGrant _
  · split
    · exact h.completeGrant _ _ _
    · exact h.attemptFailed _ _ _ _

theorem fetchGrantWork (h : ClockAt c r false s) (x : Extent) (g : Grant) (how : Find) (key slot : Nat) :
    ClockAt c r false (fetchGrantWork x g how key slot s) := by
  unfold Machine.fetchGrantWork
  split
  · exact h.fetchRecheck _ _ _ _ _
  · exact h
  · split <;> rename_i ha
    · cases x
      · exact (h.readBody ha).fetchRecheck _ _ _ _ _
      · exact (h.readBody ha).setProgress _ _
    · exact (h.readBody ha).refuseGrant _
    · exact (h.readBody ha).attemptFailed _ _ _ _
    · exact (h.readBody ha).refuseGrant _
    · exact (h.readBody ha).refuseGrant _

theorem enterState (h : ClockAt c r day s) (tr : Transition) : ClockAt c r day (enterState tr s) := by
  unfold Machine.enterState
  cases tr <;> exact h.framed

theorem nextVisit (h : ClockAt c r day s) (d : NewDay) : ClockAt c r true (nextVisit d s) := by
  have hd : ClockAt c r true (holdNewDay { d with rebase := none } s) := h.setCmd
  exact hd.endGrant

theorem rebaseUpdate (h : ClockAt c r day s) (d : NewDay) (key slot : Nat) (b : RecordBody) (clamped : Bool) :
    ClockAt c r true (rebaseUpdate d key slot b clamped s) := by
  unfold Machine.rebaseUpdate
  split
  case h_1 ha => exact (h.updateClaim ha).nextVisit _
  all_goals exact h.nextVisit _

theorem rebaseWrite (h : ClockAt c r true s) (x : Extent) (g : Grant) (d : NewDay) (key slot : Nat) (b : RecordBody)
    (clamped : Bool) : ClockAt c r true (rebaseWrite x g d key slot b clamped s) := by
  unfold Machine.rebaseWrite
  split <;> rename_i ha
  · exact (h.writeBody ha).nextVisit _
  · exact (h.writeBody ha).nextVisit _
  · cases x
    · exact (h.writeBody ha).rebaseUpdate _ _ _ _ _
    · exact (h.writeBody ha).setProgress _ _

theorem rebaseGrantWork (h : ClockAt c r true s) (x : Extent) (g : Grant) (d : NewDay) (key slot : Nat) :
    ClockAt c r true (rebaseGrantWork x g d key slot s) := by
  unfold Machine.rebaseGrantWork
  split
  · exact h.rebaseUpdate _ _ _ _ _
  · exact h
  · split <;> rename_i ha
    · exact (h.readBody ha).rebaseWrite _ _ _ _ _ _ _
    all_goals exact (h.readBody ha).nextVisit _

theorem searchAgain (h : ClockAt c r day s) (x : Extent) (v : Fin 4) : ClockAt c r day (searchAgain x v s) := h.framed

theorem composerRecheck (h : ClockAt c r day s) (x : Extent) (v : Fin 4) (e : Entry) (b : RecordBody) :
    ClockAt c r day (composerRecheck x v e b s) := by
  unfold Machine.composerRecheck placeRecord
  repeat' split
  · exact h.endGrant.searchAgain _ _
  · exact h.framed
  · exact h.endGrant.searchAgain _ _

theorem candidateGrant (h : ClockAt c r day s) (x : Extent) (g : Grant) (v : Fin 4) (e : Entry) :
    ClockAt c r day (candidateGrant x g v e s) := by
  unfold Machine.candidateGrant
  split
  · exact h.composerRecheck _ _ _ _
  · exact h
  · split <;> rename_i ha
    · cases x
      · exact (h.readBody ha).composerRecheck _ _ _ _
      · exact (h.readBody ha).setProgress _ _
    all_goals exact (h.readBody ha).endGrant.searchAgain _ _

theorem drainGrant (h : ClockAt c r day s) (g : Grant) : ClockAt c r day (drainGrant g s) := by
  unfold Machine.drainGrant
  simp only
  split
  · exact h.framed
  · exact h.framed

theorem composerGrantStep (h : ClockAt c r day s) (x : Extent) : ClockAt c r day (composerGrantStep x s) := by
  unfold Machine.composerGrantStep
  split
  · exact h
  · split
    · exact h.candidateGrant _ _ _ _
    · exact h.drainGrant _
    all_goals exact h

theorem copierWrite (h : ClockAt c r day s) (slot : Nat) (v : Contents) : ClockAt c r day (copierWrite slot v s) := by
  unfold Machine.copierWrite copierAdvance
  simp only
  repeat' split
  all_goals exact h.framed

theorem copierAccess (h : ClockAt c r day s) (slot : Nat) (live : Option Nat) :
    ClockAt c r day (copierAccess slot live s) := by
  unfold Machine.copierAccess
  split
  · exact h.copierWrite _ _
  · split <;> rename_i ha
    · exact (h.readPrimary ha).copierWrite _ _
    · exact (h.readPrimary ha).copierWrite _ _
    · exact (h.readPrimary ha).copierWrite _ _
    · exact (h.readPrimary ha).endGrant
    · exact (h.readPrimary ha).endGrant

theorem copierGrantStep (h : ClockAt c r day s) (x : Extent) : ClockAt c r day (copierGrantStep x s) := by
  unfold Machine.copierGrantStep copierWork
  repeat' split
  any_goals exact h
  · exact h.copierAccess _ _
  · exact h.copierAccess _ _
  · exact h.setProgress _ _
  · exact h.endGrant

theorem sweepRewrite (h : ClockAt c r day s) (slot key : Nat) (v : Contents) {passed : State → State}
    (hp : ∀ t, ClockAt c r day t → ClockAt c r day (passed t)) :
    ClockAt c r day (sweepRewrite slot key v passed s) := by
  unfold Machine.sweepRewrite
  simp only
  split
  · exact h.framed
  · exact hp _ h.framed

theorem sweepSecondary (h : ClockAt c r day s) (slot key : Nat) : ClockAt c r day (sweepSecondary slot key s) := by
  unfold Machine.sweepSecondary
  simp only
  split
  · exact h
  · exact h.sweepRewrite _ _ _ fun _ ht => ht.framed
  · exact h.sweepRewrite _ _ _ fun _ ht => ht.framed

theorem endSweepStep (h : ClockAt c r day s) (slot : Nat) : ClockAt c r day (endSweepStep slot s) := by
  unfold Machine.endSweepStep
  exact h.framed

theorem sweepMirrored (h : ClockAt c r day s) (slot key : Nat) : ClockAt c r day (sweepMirrored slot key s) := by
  unfold Machine.sweepMirrored
  split <;> rename_i ha
  · split
    · exact ((h.readMirrored ha).sweepSecondary _ _).endSweepStep _
    · exact (h.readMirrored ha).endSweepStep _
  · exact (h.readMirrored ha).endSweepStep _
  · exact (h.readMirrored ha).endSweepStep _
  · exact (h.readMirrored ha).endGrant
  · exact (h.readMirrored ha).endGrant

theorem sweepPrimary (h : ClockAt c r day s) (slot key : Nat) : ClockAt c r day (sweepPrimary slot key s) := by
  unfold Machine.sweepPrimary
  split <;> rename_i ha
  · exact (h.readPrimary ha).endSweepStep _
  · exact (h.readPrimary ha).endSweepStep _
  · exact (h.readPrimary ha).endSweepStep _
  · exact (h.readPrimary ha).endGrant
  · exact (h.readPrimary ha).endGrant

theorem sweepAccess (h : ClockAt c r day s) (slot : Nat) (live : Option Nat) :
    ClockAt c r day (sweepAccess slot live s) := by
  unfold Machine.sweepAccess sweepLive
  split
  · exact h.endSweepStep _
  · split
    · exact h.sweepPrimary _ _
    · exact h.sweepPrimary _ _
    · exact h.sweepMirrored _ _
    all_goals exact h.endGrant

theorem sweepGrantStep (h : ClockAt c r day s) (x : Extent) : ClockAt c r day (sweepGrantStep x s) := by
  unfold Machine.sweepGrantStep sweepWork
  repeat' split
  any_goals exact h
  · exact h.sweepAccess _ _
  · exact h.sweepAccess _ _
  · exact h.setProgress _ _

end ClockAt

/-! ## What moves the clock or the Retirement Unit -/

/-- A request for a pass starts none while the hold stands (R60). -/
theorem requestPass_keeps (h : ClockLaw s) : ClockLaw (requestPass s) := by
  obtain ⟨hs, hm, hd, hp⟩ := (clockLaw_iff s).mp h
  refine (clockLaw_iff _).mpr ⟨by simpa using hs, by simpa using hm, by simpa using hd, ?_⟩
  intro hday
  rw [requestPass_cmd] at hday
  simp [requestPass, hd, hday, hp hday]

/-- A minute boundary takes the minute no further than 2879 (R57, R58). -/
theorem minuteBoundary_keeps (h : ClockLaw s) : ClockLaw (minuteBoundary s) := by
  obtain ⟨_, hm, hd, hp⟩ := (clockLaw_iff s).mp h
  unfold minuteBoundary
  split
  · next hc =>
    have hlt : s.clock.minute < 2879 := by
      simp only [State.minuteCanAdvance, Bool.and_eq_true] at hc
      exact of_decide_eq_true hc.2
    exact requestPass_keeps ((clockLaw_iff _).mpr ⟨Nat.zero_lt_succ _, hlt, hd, hp⟩)
  · exact (clockLaw_iff _).mpr ⟨Nat.zero_lt_succ _, hm, hd, hp⟩

theorem clockTick_keeps (h : ClockLaw s) : ClockLaw (clockTick s) := by
  unfold clockTick
  split
  · next hlt =>
    obtain ⟨_, hm, hd, hp⟩ := (clockLaw_iff s).mp h
    exact (clockLaw_iff _).mpr ⟨Nat.succ_lt_succ hlt, hm, hd, hp⟩
  · exact minuteBoundary_keeps h

theorem minuteAdvanceStep_keeps (h : ClockLaw s) : ClockLaw (minuteAdvanceStep s) := by
  unfold minuteAdvanceStep
  split
  · exact minuteBoundary_keeps h
  · exact h

/-- While a pass is WALKING the hold is clear, so a change of the Retirement Unit alone keeps the law (R69). -/
theorem clockLaw_of_walking {pos : Position} (h : ClockLaw s) (hpass : s.retire.pass = some pos)
    (ht : t.clock = s.clock ∧ t.cmd = s.cmd) : ClockLaw t := by
  obtain ⟨hs, hm, hd, hp⟩ := (clockLaw_iff s).mp h
  refine (clockLaw_iff t).mpr ?_
  rw [ht.1, ht.2]
  refine ⟨hs, hm, hd, fun hday => ?_⟩
  rw [hp hday] at hpass
  cases hpass

theorem passStep_keeps (h : ClockLaw s) : ClockLaw (passStep s) := by
  cases hp : s.retire.pass with
  | none => simpa only [passStep, hp] using h
  | some pos => exact clockLaw_of_walking h hp ⟨passStep_clock s, passStep_cmd s⟩

/-- NEW DAY's last visit clears the hold as it ends the command (R68, R69). -/
theorem newDayEnd_keeps (d : NewDay) (h : ClockLaw s) : ClockLaw (newDayEnd d s) := by
  obtain ⟨hs, hm, _, _⟩ := (clockLaw_iff s).mp h
  have hend : ClockAt { s.clock with hold := false } (startPendingPass (s.setClock { s.clock with hold := false })).retire
      false (newDayEnd d s) := ⟨rfl, rfl, rfl⟩
  have hl (r : RetirementUnit) : LawAt { s.clock with hold := false } r false := ⟨hs, hm, rfl, fun h => nomatch h⟩
  exact (hl _).law hend

theorem newDayVisitStep_keeps (h : ClockLaw s) : ClockLaw (newDayVisitStep s) := by
  unfold newDayVisitStep
  split
  · next d hc =>
    have hat : ClockAt s.clock s.retire true s := .of_cmd hc
    have keeps {u : State} (hu : ClockAt s.clock s.retire true u) : ClockLaw u := ClockAt.keeps (hat.day ▸ hu) h
    split
    · unfold newDayVisitClaim
      split
      · exact newDayEnd_keeps d h
      · split
        · exact keeps (hat.removeEntry _).setCmd
        · exact keeps hat.holdForGrant
    · exact h
  · exact h

/-- SET CLOCK's minute is in range, and no NEW DAY is in flight as it is accepted (R59). -/
theorem setClockCommand_keeps (hc : s.cmd = none) (h : ClockLaw s) : ClockLaw (setClockCommand s) := by
  have hat : ClockAt s.clock s.retire false s := .of_cmd hc
  obtain ⟨_, _, hd, hp⟩ := (clockLaw_iff s).mp h
  unfold setClockCommand
  split
  · next ht =>
    have hset : ClockLaw (s.setClock { s.clock with minute := s.word 0, seconds := 0, isSet := true }) :=
      (clockLaw_iff _).mpr ⟨Nat.zero_lt_succ _, (timeOk_iff _).mp ht, hd, hp⟩
    have hreq := requestPass_keeps hset
    have hnone : dayInFlight
        (requestPass (s.setClock { s.clock with minute := s.word 0, seconds := 0, isSet := true })).cmd = false := by
      simp [hc, dayInFlight]
    exact ClockAt.keeps (hnone ▸ (ClockAt.here _).done none true) hreq
  · exact ClockAt.keeps (hat.day ▸ hat.refuse _) h

/-- NEW DAY sets the hold as it comes into flight, and ends a pass (R65). -/
theorem newDayCommand_keeps (hc : s.cmd = none) (h : ClockLaw s) : ClockLaw (newDayCommand s) := by
  have hat : ClockAt s.clock s.retire false s := .of_cmd hc
  have refused (rc : ResultCode) : ClockLaw (refuse rc s) := ClockAt.keeps (hat.day ▸ hat.refuse rc) h
  obtain ⟨hs, hm, _, _⟩ := (clockLaw_iff s).mp h
  unfold newDayCommand
  repeat' split
  · exact refused _
  · exact refused _
  · have hle : s.clock.minute - Config.dayMinutes ≤ 2879 := (Nat.sub_le _ _).trans hm
    have hl : LawAt { s.clock with minute := s.clock.minute - Config.dayMinutes, hold := true }
        { pass := none, pending := true } true := ⟨hs, hle, rfl, fun _ => rfl⟩
    exact hl.law ⟨rfl, rfl, rfl⟩

theorem acceptCommand_keeps (n : Nat) (hc : s.cmd = none) (h : ClockLaw s) : ClockLaw (acceptCommand n s) := by
  have hat : ClockAt s.clock s.retire false s := .of_cmd hc
  by_cases hset : n = 0x18
  · subst hset
    exact setClockCommand_keeps hc h
  · by_cases hday : n = 0x19
    · subst hday
      exact newDayCommand_keeps hc h
    · exact ClockAt.keeps (hat.day ▸ hat.acceptCommand hset hday) h

theorem fullReset_lawful (s : State) : ClockLaw (fullReset s) :=
  (clockLaw_iff _).mpr ⟨Nat.zero_lt_succ _, Nat.zero_le _, rfl, nofun⟩

/-! ## Every row -/

/-- A step of the command in flight that leaves the clock and the Retirement Unit, and is as much in NEW DAY after it as
before. -/
theorem ClockAt.keeps_of_cmd {cmd : InFlight} (hc : s.cmd = some cmd) (hd : dayInFlight (some cmd) = day)
    (f : ClockAt s.clock s.retire day s → ClockAt s.clock s.retire day t) (h : ClockLaw s) : ClockLaw t := by
  have hat : ClockAt s.clock s.retire day s := ⟨rfl, rfl, hc ▸ hd⟩
  exact ClockAt.keeps (hat.day ▸ f hat) h

theorem row_keeps {f : State → State} (hf : PartRow f) (h : ClockLaw s) : ClockLaw (f s) := by
  have kept {t : State} (ht : ClockAt s.clock s.retire (dayInFlight s.cmd) s →
      ClockAt s.clock s.retire (dayInFlight s.cmd) t) : ClockLaw t := (ht (.here s)).keeps h
  cases hf
  case newDayVisit => exact newDayVisitStep_keeps h
  case clockTick => exact clockTick_keeps h
  case minuteAdvance => exact minuteAdvanceStep_keeps h
  case retirementStep => exact passStep_keeps h
  case addGrant x =>
    unfold addGrantStep
    split
    · next hc _ => exact ClockAt.keeps_of_cmd hc rfl (·.addGrantWork _ _ _) h
    · exact h
  case amendGrant x =>
    unfold amendGrantStep
    split
    · next hc _ => exact ClockAt.keeps_of_cmd hc rfl (·.amendGrantWork _ _ _ _) h
    · exact h
  case fetchGrant x =>
    unfold fetchGrantStep
    split
    · next hc _ => exact ClockAt.keeps_of_cmd hc rfl (·.fetchGrantWork _ _ _ _ _) h
    · next hc => exact ClockAt.keeps_of_cmd hc rfl (·.beginAttempt _) h
    · exact h
  case rebaseGrant x =>
    unfold rebaseGrantStep
    split
    · next hc _ =>
      split
      · exact h
      · exact ClockAt.keeps_of_cmd hc rfl (·.rebaseGrantWork _ _ _ _ _) h
    · exact h
  case storeStateGrant =>
    unfold storeStateGrantStep
    split
    · next hc _ =>
      split
      · exact ClockAt.keeps_of_cmd hc rfl (·.refuseGrant _) h
      · exact ClockAt.keeps_of_cmd hc rfl (fun ha => (ha.enterState _).completeGrant _ _ _) h
    · exact h
  case checkTestGrant =>
    unfold checkTestGrantStep
    split
    · next hc _ => exact ClockAt.keeps_of_cmd hc rfl (fun ha => ClockAt.completeGrant ha.framed _ _ _) h
    · exact h
  case retireRemove =>
    unfold retireRemoveStep
    split
    · next hc =>
      unfold retireRemove
      repeat' split
      · exact ClockAt.keeps_of_cmd hc rfl (·.refuse _) h
      · exact ClockAt.keeps_of_cmd hc rfl (·.refuse _) h
      · exact ClockAt.keeps_of_cmd hc rfl (fun ha => (ha.removeEntry _).done _ _) h
    · exact h
  case viewsTick => exact kept (·.framed)
  case viewTimersTick => exact kept (·.framed)
  case holdTimersTick => exact kept (·.framed)
  case refreshExpiry v =>
    unfold refreshExpiryStep
    split
    · exact kept (·.framed)
    · exact h
  case compositionStart x => exact kept (·.framed)
  case composerGrant x => exact kept (·.composerGrantStep x)
  case copierStep x => exact kept (·.copierGrantStep x)
  case clearingStep =>
    unfold clearingStepWork
    split
    · exact kept (·.framed)
    · exact h
  case sweepTimerExpiry =>
    unfold sweepExpiryStep
    split
    · exact h
    · exact kept (·.framed)
  case sweepStep x => exact kept (·.sweepGrantStep x)
  case disturbance b n k => exact kept (·.framed)
  case frameEnd n =>
    unfold frameEndStep
    split
    · exact kept (·.framed)
    · exact h
  case take n =>
    unfold takeStep
    repeat' split
    · exact kept (·.framed)
    · exact kept (·.framed)
    · exact h
  case linkLost n =>
    unfold linkLostStep
    split
    · exact kept (·.framed)
    · exact h
  case advanceLine n level => exact kept (·.framed rfl rfl rfl)
  case advanceRise n =>
    unfold advanceRiseStep
    split
    · exact h
    · exact kept (·.framed)
  case advanceRelease n => exact kept (·.framed rfl rfl rfl)

/-- The clock's law, in the form in which every step is known to keep it. -/
theorem clockLaw_keptByParts : KeptByParts ClockLaw where
  queue _ _ h := h
  port _ _ h := h
  events _ _ h := h
  inReset _ _ h := h
  reset s := fullReset_lawful s
  accept n _ hc h := acceptCommand_keeps n hc h
  lookup s hc h :=
    have hat : ClockAt s.clock s.retire false s := .of_cmd hc
    ClockAt.keeps (hat.day ▸ hat.retireLookup) h
  row _ _ hf h := row_keeps hf h

end

/-! ## The obligation -/

/-- Settles O54, by the changes a step is made of: the few that move the clock or the Retirement Unit, each by its own
rule, and the frame of all others. -/
theorem stepKeepsClockLaw : Obligations.StepKeepsClockLaw :=
  fun _ _ hs he => clockLaw_keptByParts.step hs he

end Sys2Proof.Proofs.KeepsClockLaw


/-!
PROOFS. What the Service Clock, the Retirement Unit and NEW DAY do: the clock commands, the minute advance, a step of a
retirement pass, a visit of NEW DAY, and the row STALE.
-/

namespace Sys2Proof.Proofs.ServiceDay

open Sys2Proof Sys2Proof.Machine Sys2Proof.Proofs.RecordCommands

section

variable {s : State}

/-! ## Rules of the operations -/

/-- A row of the part's own, while RESET_N is high. -/
theorem whenAwake_awake (f : State → State) (h : s.inReset = false) : whenAwake f s = .next (f s) := by
  simp [whenAwake, h]

/-- A request for a pass (R60): started when the unit is IDLE with the hold clear, else left pending. -/
theorem requestPass_eq (s : State) : requestPass s = { s with
    retire := if s.retire.pass = none ∧ s.clock.hold = false then
        { s.retire with pass := some { time := 0, key := 0 } }
      else { s.retire with pending := true } } := by
  unfold requestPass
  by_cases h : s.retire.pass = none ∧ s.clock.hold = false
  · rw [if_pos (by simpa using h), if_pos h]
    rfl
  · rw [if_neg (by simpa using h), if_neg h]
    rfl

theorem endPass_eq (h : s.clock.hold = false) : endPass s = { s with
    retire := { pass := if s.retire.pending then some { time := 0, key := 0 } else none, pending := false } } := by
  simp only [endPass, h, Bool.false_eq_true, if_false]
  rfl

/-- A removal reaches the order, the phrases and the events alone (R17). -/
theorem removeEntry_eq (e : Entry) (s : State) : removeEntry e s = { s with
    dir := { s.dir with order := s.dir.order.filter fun x => !(x.key == e.key && x.slot == e.slot) }
    phrases := (releaseEntry e s).phrases
    events := (releaseEntry e s).events } := by
  unfold removeEntry State.setOrder
  rw [releaseEntry_setDir]
  apply State.ext <;> simp [dropEntry]

/-- The next after claim with no filter is a search of the entries (R13). -/
theorem nextAfter_any (pos : Position) (s : State) :
    nextAfter pos anyEntry s = s.entries.find? fun x => posBefore pos (entryPos x) := by
  simp [nextAfter, anyEntry]

/-- A minute boundary at which the minute advances (R57). -/
theorem minuteBoundary_advances (h : s.minuteCanAdvance = true) :
    minuteBoundary s = requestPass (s.setClock { s.clock with minute := s.clock.minute + 1, seconds := 0 }) := if_pos h

/-- A minute boundary at which it does not: the clock is not set, or stands at its limit (R57, R58). -/
theorem minuteBoundary_stays (h : ¬ s.minuteCanAdvance = true) :
    minuteBoundary s = s.setClock { s.clock with seconds := 0 } := if_neg h

theorem minuteCanAdvance_iff (s : State) :
    s.minuteCanAdvance = true ↔ s.clock.isSet = true ∧ s.clock.minute < 2879 := by
  rw [State.minuteCanAdvance, Bool.and_eq_true]
  exact and_congr_right fun _ => decide_eq_true_iff

/-- An entry is due when it is not held and its retire time is not after the minute (R62). -/
theorem isDue_iff (e : Entry) (s : State) :
    isDue e s = true ↔ e.held = false ∧ e.effective + lingerOf s.params e.status ≤ s.clock.minute := by
  simp [isDue]

theorem passLooksAt_due {e : Entry} (h : isDue e s = true) :
    passLooksAt e s = (removeEntry e s).setRetire { s.retire with pass := some (entryPos e) } := by
  simp [passLooksAt, h]

theorem passLooksAt_kept {e : Entry} (h : ¬ isDue e s = true) :
    passLooksAt e s = s.setRetire { s.retire with pass := some (entryPos e) } := by
  simp [passLooksAt, h]

section

variable {pos : Position}

theorem passStep_none (hp : s.retire.pass = some pos) (hf : nextAfter pos anyEntry s = none) :
    passStep s = endPass s := by
  simp only [passStep, hp, hf]

theorem passStep_beyond {e : Entry} (hp : s.retire.pass = some pos) (hf : nextAfter pos anyEntry s = some e)
    (h : s.clock.minute < e.effective) : passStep s = endPass s := by
  simp only [passStep, hp, hf, if_pos h]

theorem passStep_looks {e : Entry} (hp : s.retire.pass = some pos) (hf : nextAfter pos anyEntry s = some e)
    (h : e.effective ≤ s.clock.minute) : passStep s = passLooksAt e s := by
  simp only [passStep, hp, hf, if_neg (show ¬ s.clock.minute < e.effective by omega)]

end

section

variable {d : NewDay}

/-- With NEW DAY in flight and no rebase awaited, the row NEW_DAY_VISIT is a visit claim. -/
theorem exec_newDayVisit (hr : s.inReset = false) (hc : s.cmd = some (.newDay d)) (hd : d.rebase = none) :
    exec .newDayVisit s = .next (newDayVisitClaim d s) := by
  have hv : newDayVisitStep s = newDayVisitClaim d s := by simp only [newDayVisitStep, hc, hd]
  exact (whenAwake_awake newDayVisitStep hr).trans (congrArg _ hv)

/-- NEW DAY's end (R68, R69): the completion with its counts, the hold clear, and the pending pass started. -/
theorem newDayEnd_eq (d : NewDay) (s : State) : newDayEnd d s = { s with
    cmd := none
    clock := { s.clock with hold := false }
    retire := { pass := if s.retire.pending then some { time := 0, key := 0 } else none, pending := false }
    port := { s.port with
      staging := stagingOf (twoBytes d.minute ++ twoBytes d.retired ++ twoBytes d.rebased ++ twoBytes d.clamped ++
        twoBytes d.withdrawn),
      lastResult := .ok, silence := 0, stale := false } } := by
  apply State.ext
  case retire => rfl
  all_goals simp [newDayEnd, done, complete, startPendingPass, outputStaging, newDayBytes]

theorem newDayVisitClaim_none (hf : nextAfter d.visit anyEntry s = none) : newDayVisitClaim d s = newDayEnd d s := by
  simp only [newDayVisitClaim, hf]

theorem newDayVisitClaim_removes {e : Entry} (hf : nextAfter d.visit anyEntry s = some e) (h : e.effective < 1440) :
    newDayVisitClaim d s =
      holdNewDay { d with visit := entryPos e, retired := d.retired + 1 } (removeEntry e s) := by
  simp only [newDayVisitClaim, hf]
  exact if_pos h

theorem newDayVisitClaim_selects {e : Entry} (hf : nextAfter d.visit anyEntry s = some e) (h : 1440 ≤ e.effective) :
    newDayVisitClaim d s =
      holdForGrant (.newDay { d with visit := entryPos e, rebase := some (e.key, e.slot) }) s := by
  simp only [newDayVisitClaim, hf]
  exact if_neg (Nat.not_lt.mpr h)

end

/-- A command that asks for a grant changes the arbiter and the command in flight alone (R42, R118). -/
theorem holdForGrant_eq {cmd : InFlight} {slot : Option Nat} {key : Nat} (h : commandTarget cmd = (slot, key)) :
    holdForGrant cmd s = { s with
      cmd := some cmd
      arb := arbAfterRequest s.arb { holder := .command, slot := slot, key := key, progress := .begun } } := by
  unfold holdForGrant
  rw [requestPort_eq (by decide)]
  simp only [grantTarget, State.setCmd_cmd, h]
  rfl

/-! ## The clock commands (R59, R65) -/

theorem setClockCommand_ok (h : s.word 0 ≤ 2879) : setClockCommand s =
    done none true (requestPass (s.setClock { s.clock with minute := s.word 0, seconds := 0, isSet := true })) :=
  if_pos ((timeOk_iff _).mpr h)

theorem setClockCommand_late (h : 2879 < s.word 0) : setClockCommand s = refuse .fieldRange s := by
  have ht : ¬ timeOk (s.word 0) = true := by
    rw [timeOk_iff]
    omega
  exact if_neg ht

theorem newDayCommand_unset (h : s.clock.isSet = false) : newDayCommand s = refuse .clockUnset s := by
  simp [newDayCommand, h]

theorem newDayCommand_early (hs : s.clock.isSet = true) (h : s.clock.minute < 1440) :
    newDayCommand s = refuse .tooEarly s := by
  simp [newDayCommand, hs, h, Config.dayMinutes]

theorem newDayCommand_ok (hs : s.clock.isSet = true) (h : 1440 ≤ s.clock.minute) : newDayCommand s =
    ((s.setClock { s.clock with minute := s.clock.minute - 1440, hold := true }).setRetire
      { pass := none, pending := true }).setCmd (some (.newDay (newDayStart s))) := by
  simp [newDayCommand, hs, Config.dayMinutes, Nat.not_lt.mpr h]

/-! ## The silence limit (R158) -/

theorem silenceReached_of_next (h0 : s.params.silenceLimit ≠ 0) (h : s.params.silenceLimit = s.port.silence + 1)
    (hlt : s.port.silence < 1023) : silenceReached s = true := by
  have hnext : nextSilence s = s.params.silenceLimit := (Nat.min_eq_right hlt).trans h.symm
  have hlt' : s.port.silence < Config.silenceLimit := hlt
  simp [silenceReached, h0, hlt', hnext]

/-- STALE's flag stands while the stale condition does (R164). -/
theorem flags_stale (h : s.port.stale = true) : s.flags.getLsbD 7 = true := by
  simp [State.flags, levelFlags, levelHolds, h, flagBit, EventKind.bit, EventKind.number]

end

/-! ## The obligations -/

/-- Settles O28: SET CLOCK is the change of the clock and a request for a pass, NEW DAY its tests and one change. -/
theorem clockCommandsMoveTheMinute : Obligations.ClockCommandsMoveTheMinute := by
  unfold Obligations.ClockCommandsMoveTheMinute
  refine ⟨fun s h => ⟨fun hw => ?_, fun hw => ?_⟩, fun s h => ⟨fun hs => ?_, fun hs hm => ?_, fun hs hm => ?_⟩⟩
  · have hr : acceptCommand (0x18 : Byte).toNat (struck s) = _ := setClockCommand_ok (s := struck s) hw
    rw [exec_accepted h, hr, requestPass_eq]
    simp only [done, complete, h.2]
    rfl
  · exact ends_of_refuse h (setClockCommand_late (s := struck s) hw)
  · exact ends_of_refuse h (newDayCommand_unset (s := struck s) hs)
  · exact ends_of_refuse h (newDayCommand_early (s := struck s) hs hm)
  · have hr : acceptCommand (0x19 : Byte).toNat (struck s) = _ := newDayCommand_ok (s := struck s) hs hm
    rw [exec_accepted h, hr]
    rfl

/-- Settles O29, by what the visit claim answers. -/
theorem newDayVisitsInOrder : Obligations.NewDayVisitsInOrder := by
  unfold Obligations.NewDayVisitsInOrder
  intro s d hr hc hd
  simp only [← nextAfter_any, exec_newDayVisit hr hc hd]
  refine ⟨fun e hf he => ?_, fun e hf he => ?_, fun hf => ?_⟩
  · rw [newDayVisitClaim_removes hf he, removeEntry_eq]
    rfl
  · rw [newDayVisitClaim_selects hf he, holdForGrant_eq rfl]
    rfl
  · rw [newDayVisitClaim_none hf, newDayEnd_eq]

/-- Settles O32: each row is its holder's share of the tick that reaches the limit. -/
theorem minuteAndSilenceReachTheirLimits : Obligations.MinuteAndSilenceReachTheirLimits := by
  unfold Obligations.MinuteAndSilenceReachTheirLimits
  refine ⟨fun s hr h59 hset hm => ?_, fun s hr hst h0 hl hlt => ⟨_, ?_, rfl, flags_stale rfl⟩⟩
  · have hadv : s.minuteCanAdvance = true := (minuteCanAdvance_iff s).mpr ⟨hset, hm⟩
    have hstep : minuteAdvanceStep s = minuteBoundary s := if_pos ⟨h59, hadv⟩
    refine (whenAwake_awake minuteAdvanceStep hr).trans ?_
    rw [hstep, minuteBoundary_advances hadv, requestPass_eq]
    rfl
  · have hreach := silenceReached_of_next h0 hl hlt
    have hstep : staleStep s = silenceTick s := if_pos ⟨hreach, hst⟩
    have hnext : nextSilence s = s.port.silence + 1 := Nat.min_eq_right hlt
    refine (whenAwake_awake staleStep hr).trans ?_
    rw [hstep, silenceTick, hreach, hnext, Bool.or_true]
    rfl

/-- Settles O33, by what the pass's next after claim answers. -/
theorem retirementStepRemovesWhatIsDue : Obligations.RetirementStepRemovesWhatIsDue := by
  unfold Obligations.RetirementStepRemovesWhatIsDue
  intro s pos hr hp hhold
  have hexec : exec .retirementStep s = .next (passStep s) := whenAwake_awake passStep hr
  simp only [← nextAfter_any, hexec]
  refine ⟨fun hf => ?_, fun e hf he => ?_, fun e hf he => ⟨fun hd => ?_, fun hd => ?_⟩⟩
  · rw [passStep_none hp hf, endPass_eq hhold]
  · rw [passStep_beyond hp hf he, endPass_eq hhold]
  · have hdue : isDue e s = true := (isDue_iff e s).mpr hd
    rw [passStep_looks hp hf he, passLooksAt_due hdue, removeEntry_eq]
    rfl
  · have hdue : ¬ isDue e s = true := fun h => hd ((isDue_iff e s).mp h)
    rw [passStep_looks hp hf he, passLooksAt_kept hdue]
    rfl

end Sys2Proof.Proofs.ServiceDay


/-!
PROOFS. The second tick (R56). Each of its four holders moves blocks that no other holder moves, so in whatever order
the tick reaches them a block is moved once, as its holder's share moves it, from the value it had before the tick. The
link-combination reset depends on the links and P10 alone, so it too is the same in every order.
-/

namespace Sys2Proof.Proofs.SecondTick

open Sys2Proof Sys2Proof.Machine Sys2Proof.Proofs.ServiceDay

/-! ## A block that one of several actions moves -/

section

variable {ι σ α : Type} {act : ι → σ → σ} {f : σ → α}

theorem foldl_keeps {l : List ι} (stay : ∀ j ∈ l, ∀ s, f (act j s) = f s) (s : σ) :
    f (l.foldl (fun t j => act j t) s) = f s := by
  induction l generalizing s with
  | nil => rfl
  | cons j rest ih =>
    rw [List.foldl_cons, ih fun k hk => stay k (List.mem_cons_of_mem j hk)]
    exact stay j List.mem_cons_self s

/-- Where one action alone reaches a block, and acts once, the block moves as that action moves it. -/
theorem foldl_moves {l : List ι} {i : ι} (R : α → α → Prop) (move : ∀ s, R (f s) (f (act i s)))
    (stay : ∀ j ∈ l, j ≠ i → ∀ s, f (act j s) = f s) (hi : i ∈ l) (hn : l.Nodup) (s : σ) :
    R (f s) (f (l.foldl (fun t j => act j t) s)) := by
  obtain ⟨before, after, rfl⟩ := List.append_of_mem hi
  obtain ⟨_, hafter, hdisjoint⟩ := List.nodup_append.mp hn
  have stayBefore : ∀ j ∈ before, ∀ s, f (act j s) = f s := fun j hj =>
    stay j (List.mem_append_left _ hj) (hdisjoint j hj i List.mem_cons_self)
  have stayAfter : ∀ j ∈ after, ∀ s, f (act j s) = f s := fun j hj =>
    stay j (List.mem_append_right _ (List.mem_cons_of_mem i hj)) fun h =>
      (List.nodup_cons.mp hafter).1 (h ▸ hj)
  rw [List.foldl_append, List.foldl_cons, foldl_keeps stayAfter, ← foldl_keeps stayBefore s]
  exact move _

end

/-! ## The orders of a tick -/

/-- The order reaches each of the four holders once, the View Engine under the name given. -/
def Reaches (order : List TickHolder) (views : TickHolder) : Prop :=
  order.Perm [.serviceClock, .controlPort, views, .boardLinks]

theorem reaches_of_contains {order : List TickHolder} {views : TickHolder} (hlen : order.length = 4)
    (hc : .serviceClock ∈ order) (hp : .controlPort ∈ order) (hv : views ∈ order) (hl : .boardLinks ∈ order)
    (hn : [TickHolder.serviceClock, .controlPort, views, .boardLinks].Nodup) : Reaches order views := by
  have hsub : [TickHolder.serviceClock, .controlPort, views, .boardLinks] ⊆ order := by
    intro h hm
    simp only [List.mem_cons, List.not_mem_nil, or_false] at hm
    obtain rfl | rfl | rfl | rfl := hm <;> assumption
  exact ((List.subperm_of_subset hn hsub).perm_of_length_le hlen.le).symm

/-- A well-formed second tick reaches its four holders, the View Engine under one of its two names. -/
theorem reaches_of_wellFormed {order : List TickHolder} (h : (Instr.secondTick order).wellFormed = true) :
    Reaches order .viewEngine ∨ Reaches order .viewTimers := by
  simp only [Instr.wellFormed, Bool.and_eq_true, Bool.or_eq_true, beq_iff_eq, List.contains_iff_mem] at h
  obtain ⟨⟨⟨⟨hlen, hc⟩, hp⟩, hv⟩, hl⟩ := h
  obtain hv | hv := hv
  · exact .inl (reaches_of_contains hlen hc hp hv hl (by decide))
  · exact .inr (reaches_of_contains hlen hc hp hv hl (by decide))

theorem Reaches.mem {order : List TickHolder} {views : TickHolder} (h : Reaches order views) (x : TickHolder) :
    x ∈ order ↔ x = .serviceClock ∨ x = .controlPort ∨ x = views ∨ x = .boardLinks := by
  rw [List.Perm.mem_iff h]
  simp

theorem Reaches.nodup {order : List TickHolder} {views : TickHolder} (h : Reaches order views)
    (hv : views = .viewEngine ∨ views = .viewTimers) : order.Nodup := by
  refine (List.Perm.nodup_iff h).mpr ?_
  obtain rfl | rfl := hv <;> decide

/-- No other holder of the order is the View Engine, under either name. -/
theorem Reaches.one_name {order : List TickHolder} {views x : TickHolder} (h : Reaches order views) (hx : x ∈ order)
    (hne : x ≠ views) : x ≠ .viewEngine ∧ x ≠ .viewTimers := by
  obtain rfl | rfl | rfl | rfl := (h.mem x).mp hx
  · decide
  · decide
  · exact absurd rfl hne
  · decide

section

variable {s t : State} {holder : TickHolder}

/-! ## What one holder's share leaves alone -/

/-- The state with every block that a second tick moves put aside. -/
def offTick (s : State) : State :=
  { s with
    clock := State.reset.clock, retire := State.reset.retire, port := State.reset.port, views := State.reset.views,
    links := State.reset.links }

theorem tickShare_offTick (holder : TickHolder) (s : State) : offTick (tickShare holder s) = offTick s := by
  cases holder <;> apply State.ext <;> simp [offTick, tickShare]

theorem tickShare_pending (holder : TickHolder) (s : State) : (tickShare holder s).pending = s.pending := by
  cases holder <;> simp [tickShare]

theorem tickShare_params (holder : TickHolder) (s : State) : (tickShare holder s).params = s.params := by
  cases holder
  case controlPort => rfl
  all_goals simp [tickShare, State.params]

theorem tickShare_clock (h : holder ≠ .serviceClock) (s : State) :
    ((tickShare holder s).clock, (tickShare holder s).retire) = (s.clock, s.retire) := by
  cases holder
  · exact absurd rfl h
  all_goals simp [tickShare]

theorem tickShare_port (h : holder ≠ .controlPort) (s : State) : (tickShare holder s).port = s.port := by
  cases holder
  case controlPort => exact absurd rfl h
  all_goals simp [tickShare]

theorem tickShare_views (he : holder ≠ .viewEngine) (ht : holder ≠ .viewTimers) (s : State) :
    (tickShare holder s).views = s.views := by
  cases holder
  case viewEngine => exact absurd rfl he
  case viewTimers => exact absurd rfl ht
  all_goals simp [tickShare]

theorem tickShare_links (h : holder ≠ .boardLinks) (s : State) : (tickShare holder s).links = s.links := by
  cases holder
  case boardLinks => exact absurd rfl h
  all_goals simp [tickShare]

/-! ## What one holder's share moves -/

/-- The Service Clock and the Retirement Unit over one tick (R57, R60). -/
def ClockMoved (before after : ServiceClock × RetirementUnit) : Prop :=
  after.1.seconds = (if before.1.seconds < 59 then before.1.seconds + 1 else 0) ∧
    after.1.minute = (if 59 ≤ before.1.seconds ∧ before.1.isSet = true ∧ before.1.minute < 2879 then
      before.1.minute + 1 else before.1.minute) ∧
    after.1 = { before.1 with seconds := after.1.seconds, minute := after.1.minute } ∧
    after.2 = (if 59 ≤ before.1.seconds ∧ before.1.isSet = true ∧ before.1.minute < 2879 then
      if before.2.pass = none ∧ before.1.hold = false then { before.2 with pass := some { time := 0, key := 0 } }
      else { before.2 with pending := true }
      else before.2)

theorem clockTick_moves (s : State) :
    ClockMoved (s.clock, s.retire) ((clockTick s).clock, (clockTick s).retire) := by
  by_cases hsec : s.clock.seconds < 59
  · have hn : ¬ (59 ≤ s.clock.seconds ∧ s.clock.isSet = true ∧ s.clock.minute < 2879) := by omega
    have ht : clockTick s = s.setClock { s.clock with seconds := s.clock.seconds + 1 } := if_pos hsec
    rw [ht, ClockMoved, if_pos hsec, if_neg hn, if_neg hn]
    exact ⟨rfl, rfl, rfl, rfl⟩
  · have ht : clockTick s = minuteBoundary s := if_neg hsec
    by_cases hadv : s.minuteCanAdvance = true
    · obtain ⟨hset, hm⟩ := (minuteCanAdvance_iff s).mp hadv
      have hy : 59 ≤ s.clock.seconds ∧ s.clock.isSet = true ∧ s.clock.minute < 2879 := ⟨by omega, hset, hm⟩
      rw [ht, minuteBoundary_advances hadv, requestPass_eq, ClockMoved, if_neg hsec, if_pos hy, if_pos hy]
      exact ⟨rfl, rfl, rfl, rfl⟩
    · have hn : ¬ (59 ≤ s.clock.seconds ∧ s.clock.isSet = true ∧ s.clock.minute < 2879) :=
        fun h => hadv ((minuteCanAdvance_iff s).mpr h.2)
      rw [ht, minuteBoundary_stays hadv, ClockMoved, if_neg hsec, if_neg hn, if_neg hn]
      exact ⟨rfl, rfl, rfl, rfl⟩

/-- The silence count and the stale condition over one tick (R158). -/
def SilenceMoved (before after : ControlPort) : Prop :=
  after = { before with silence := after.silence, stale := after.stale } ∧
    after.silence = min 1023 (before.silence + 1) ∧
    (after.stale = true ↔ before.stale = true ∨
      (before.params.silenceLimit ≠ 0 ∧ before.silence + 1 = before.params.silenceLimit ∧ before.silence < 1023))

theorem silenceReached_iff (s : State) : silenceReached s = true ↔
    s.params.silenceLimit ≠ 0 ∧ s.port.silence + 1 = s.params.silenceLimit ∧ s.port.silence < 1023 := by
  constructor
  · intro h
    simp only [silenceReached, Bool.and_eq_true, bne_iff_ne, beq_iff_eq] at h
    obtain ⟨⟨h0, hlt⟩, hnext⟩ := h
    have hlt' : s.port.silence < 1023 := of_decide_eq_true hlt
    exact ⟨h0, (Nat.min_eq_right hlt').symm.trans hnext, hlt'⟩
  · rintro ⟨h0, hnext, hlt⟩
    exact silenceReached_of_next h0 hnext.symm hlt

theorem silenceTick_moves (s : State) : SilenceMoved s.port (silenceTick s).port := by
  refine ⟨rfl, rfl, ?_⟩
  have hst : (silenceTick s).port.stale = (s.port.stale || silenceReached s) := rfl
  rw [hst, Bool.or_eq_true, silenceReached_iff]
  rfl

/-- A link's hold timer over one tick (R109). -/
def HoldMoved (before after : Link) : Prop :=
  (before.advance = false → after = { before with holdTimer := 0, heldAtTick := false }) ∧
    (before.advance = true → before.heldAtTick = false → after = { before with holdTimer := 0, heldAtTick := true }) ∧
    (before.advance = true → before.heldAtTick = true →
      after = { before with holdTimer := min 3 (before.holdTimer + 1) })

theorem ticked_moves (l : Link) : HoldMoved l l.ticked := by
  refine ⟨fun ha => ?_, fun ha hh => ?_, fun ha hh => ?_⟩
  · simp [Link.ticked, ha]
  · simp [Link.ticked, ha, hh]
  · simp [Link.ticked, ha, hh]

theorem holdTimersTick_link (s : State) (n : Fin 4) : (holdTimersTick s).link n = (s.link n).ticked := by
  simp [State.link, holdTimersTick]

/-- A view's refresh timer over one tick, by the name under which the tick reaches the View Engine (R89, log 7). -/
def RefreshMoved (views : TickHolder) (before after : View) : Prop :=
  (∀ k : Nat, before.state = .resting → before.refreshTimer = some k →
    (2 ≤ k ∨ views = .viewTimers → after = { before with refreshTimer := some (k - 1) }) ∧
    (k ≤ 1 → views = .viewEngine →
      after.state = .running ∧ after.passNumber = (before.passNumber + 1) % 256 ∧ after.rowIndex = 0 ∧
        after.refreshTimer = none ∧ after.config = before.config)) ∧
    (before.state ≠ .resting → after = before)

section

variable {u v : Fin 4}

theorem refreshTick_moves (v : Fin 4) (s : State) :
    RefreshMoved .viewEngine (s.view v) ((refreshTick v s).view v) := by
  refine ⟨fun k hs hk => ⟨fun h => ?_, fun hle _ => ?_⟩, fun hs => ?_⟩
  · have hgt : ¬ k ≤ 1 := by
      rcases h with h | h
      · omega
      · exact nomatch h
    simp only [refreshTick, hs, hk, if_true, if_neg hgt, State.view_setView_same]
  · simp [refreshTick, hs, hk, hle, startPass, View.passStarted]
  · rw [refreshTick, if_neg hs]

theorem refreshTimerTick_moves (v : Fin 4) (s : State) :
    RefreshMoved .viewTimers (s.view v) ((refreshTimerTick v s).view v) := by
  refine ⟨fun k hs hk => ⟨fun _ => ?_, fun _ h => nomatch h⟩, fun hs => ?_⟩
  · simp only [refreshTimerTick, hs, hk, if_true, State.view_setView_same]
  · rw [refreshTimerTick, if_neg hs]

theorem refreshTick_other (h : u ≠ v) (s : State) : (refreshTick u s).view v = s.view v := by
  unfold refreshTick startPass
  repeat' split
  any_goals rfl
  all_goals exact State.view_setView_other _ _ h.symm

theorem refreshTimerTick_other (h : u ≠ v) (s : State) : (refreshTimerTick u s).view v = s.view v := by
  unfold refreshTimerTick
  repeat' split
  any_goals rfl
  exact State.view_setView_other _ _ h.symm

theorem mem_views : ∀ v : Fin 4, v ∈ [(0 : Fin 4), 1, 2, 3] := by decide

/-- The View Engine's share moves each view's refresh timer once. -/
theorem viewsTick_moves (v : Fin 4) (s : State) : RefreshMoved .viewEngine (s.view v) ((viewsTick s).view v) := by
  have hfold : viewsTick s = [(0 : Fin 4), 1, 2, 3].foldl (fun t u => refreshTick u t) s := by
    simp only [viewsTick, List.foldl_cons, List.foldl_nil]
  rw [hfold]
  exact foldl_moves (f := fun s : State => s.view v) (RefreshMoved .viewEngine) (refreshTick_moves v)
    (fun _ _ hu => refreshTick_other hu) (mem_views v) (by decide) s

theorem viewTimersTick_moves (v : Fin 4) (s : State) :
    RefreshMoved .viewTimers (s.view v) ((viewTimersTick s).view v) := by
  have hfold : viewTimersTick s = [(0 : Fin 4), 1, 2, 3].foldl (fun t u => refreshTimerTick u t) s := by
    simp only [viewTimersTick, List.foldl_cons, List.foldl_nil]
  rw [hfold]
  exact foldl_moves (f := fun s : State => s.view v) (RefreshMoved .viewTimers) (refreshTimerTick_moves v)
    (fun _ _ hu => refreshTimerTick_other hu) (mem_views v) (by decide) s

end

/-! ## The link-combination reset (R110) -/

/-- Whether the tick completes the combination depends on the links and P10 alone. -/
theorem combinationHeld_tick_congr (hp : t.params = s.params) (hl : t.links = s.links) :
    combinationHeld (holdTimersTick t) = combinationHeld (holdTimersTick s) := by
  have hparams (u : State) : (holdTimersTick u).params = u.params := tickShare_params .boardLinks u
  simp only [combinationHeld, hparams, hp, holdTimersTick_link, State.link_congr hl]

theorem combinationHeld_tickShare (h : holder ≠ .boardLinks) (s : State) :
    combinationHeld (holdTimersTick (tickShare holder s)) = combinationHeld (holdTimersTick s) :=
  combinationHeld_tick_congr (tickShare_params holder s) (tickShare_links h s)

theorem deliverTick_cons (h : holder ≠ .boardLinks) (rest : List TickHolder) (s : State) :
    deliverTick (holder :: rest) s = deliverTick rest (tickShare holder s) := if_neg fun hc => h hc.1

theorem deliverTick_links_clear (h : combinationHeld (holdTimersTick s) = false) (rest : List TickHolder) :
    deliverTick (.boardLinks :: rest) s = deliverTick rest (holdTimersTick s) :=
  if_neg fun hc => Bool.false_ne_true (h.symm.trans hc.2)

theorem deliverTick_links_held (h : combinationHeld (holdTimersTick s) = true) (rest : List TickHolder) :
    deliverTick (.boardLinks :: rest) s = fullReset (holdTimersTick s) :=
  (if_pos ⟨rfl, h⟩).trans (if_pos h)

/-- The shares of the holders, one after the other, with no reset between. -/
def shares (order : List TickHolder) (s : State) : State := order.foldl (fun t holder => tickShare holder t) s

theorem deliverTick_of_noLinks {order : List TickHolder} (h : .boardLinks ∉ order) (s : State) :
    deliverTick order s = shares order s := by
  induction order generalizing s with
  | nil => rfl
  | cons x rest ih =>
    obtain ⟨hx, hrest⟩ := List.ne_and_not_mem_of_not_mem_cons h
    exact (deliverTick_cons (Ne.symm hx) rest s).trans (ih hrest _)

/-- A tick that completes no combination is its holders' shares. -/
theorem deliverTick_of_clear {order : List TickHolder} (hn : order.Nodup)
    (h : combinationHeld (holdTimersTick s) = false) : deliverTick order s = shares order s := by
  induction order generalizing s with
  | nil => rfl
  | cons x rest ih =>
    obtain ⟨hx, hrest⟩ := List.nodup_cons.mp hn
    by_cases hb : x = .boardLinks
    · subst hb
      exact (deliverTick_links_clear h rest).trans (deliverTick_of_noLinks hx _)
    · exact (deliverTick_cons hb rest s).trans (ih hrest ((combinationHeld_tickShare hb s).trans h))

/-- A full reset is told from another only by the queue and by the levels of the ADVANCE lines. -/
theorem fullResetOf_congr {u : State} (hp : u.pending = s.pending) (hl : ∀ n, (u.link n).line = (s.link n).line)
    (h : FullResetOf u t) : FullResetOf s t := by
  unfold FullResetOf at h ⊢
  simpa only [hp, hl] using h

theorem tickShare_line (holder : TickHolder) (s : State) (n : Fin 4) :
    ((tickShare holder s).link n).line = (s.link n).line := by
  by_cases h : holder = .boardLinks
  · subst h
    have hl : (s.link n).ticked.line = (s.link n).line := by
      unfold Link.ticked
      split
      · split <;> rfl
      · rfl
    exact (congrArg Link.line (holdTimersTick_link s n)).trans hl
  · rw [State.link_congr (tickShare_links h s)]

/-- A tick that completes the combination is a full reset, whatever share came before the Board Links'. -/
theorem deliverTick_resets {order : List TickHolder} (hb : .boardLinks ∈ order)
    (h : combinationHeld (holdTimersTick s) = true) : FullResetOf s (deliverTick order s) := by
  induction order generalizing s with
  | nil => exact nomatch hb
  | cons x rest ih =>
    by_cases hx : x = .boardLinks
    · subst hx
      rw [deliverTick_links_held h]
      exact fullResetOf_congr (tickShare_pending .boardLinks s) (tickShare_line .boardLinks s) (fullReset_of _)
    · rw [deliverTick_cons hx]
      exact fullResetOf_congr (tickShare_pending x s) (tickShare_line x s)
        (ih ((List.mem_cons.mp hb).resolve_left (Ne.symm hx)) ((combinationHeld_tickShare hx s).trans h))

/-! ## The tick, block by block -/

section

variable {order : List TickHolder} {views : TickHolder}

/-- A block that one holder's share alone moves is moved as that share moves it, in every order. -/
theorem shares_move {α : Type} {f : State → α} {R : α → α → Prop} (hn : order.Nodup) (hm : holder ∈ order)
    (move : ∀ s, R (f s) (f (tickShare holder s)))
    (stay : ∀ x ∈ order, x ≠ holder → ∀ s, f (tickShare x s) = f s) : R (f s) (f (shares order s)) :=
  foldl_moves R move stay hm hn s

/-- Whatever is read from the blocks that no holder moves stays over the tick. -/
theorem shares_keep {α : Type} (f : State → α) (order : List TickHolder) (s : State)
    (hf : ∀ u, f (offTick u) = f u := by exact fun _ => rfl) : f (shares order s) = f s := by
  have hoff : offTick (shares order s) = offTick s := foldl_keeps (fun x _ => tickShare_offTick x) s
  rw [← hf (shares order s), hoff, hf]

theorem shares_clock (hn : order.Nodup) (hm : .serviceClock ∈ order) :
    ClockMoved (s.clock, s.retire) ((shares order s).clock, (shares order s).retire) :=
  shares_move (f := fun s => (s.clock, s.retire)) hn hm clockTick_moves fun _ _ hx => tickShare_clock hx

theorem shares_port (hn : order.Nodup) (hm : .controlPort ∈ order) : SilenceMoved s.port (shares order s).port :=
  shares_move hn hm silenceTick_moves fun _ _ hx => tickShare_port hx

theorem shares_link (hn : order.Nodup) (hm : .boardLinks ∈ order) (n : Fin 4) :
    HoldMoved (s.link n) ((shares order s).link n) := by
  refine shares_move (f := fun s => s.link n) hn hm (fun s => ?_) fun x _ hx s =>
    State.link_congr (tickShare_links hx s) n
  exact (holdTimersTick_link s n).symm ▸ ticked_moves (s.link n)

/-- The tick reaches the View Engine under one name, so no other share moves a view. -/
theorem shares_view (h : Reaches order views) (hv : views = .viewEngine ∨ views = .viewTimers) (v : Fin 4) :
    RefreshMoved views (s.view v) ((shares order s).view v) := by
  refine shares_move (f := fun s => s.view v) (h.nodup hv) ((h.mem views).mpr (by simp)) ?_ fun x hx hne s => ?_
  · obtain rfl | rfl := hv
    · exact viewsTick_moves v
    · exact viewTimersTick_moves v
  · obtain ⟨he, ht⟩ := h.one_name hx hne
    exact State.view_congr (tickShare_views he ht s) v

end

end

/-! ## The obligation -/

/-- The row of a second tick that completes no combination is its holders' shares. -/
theorem exec_secondTick_clear {order : List TickHolder} {s : State} (hn : order.Nodup) (hr : s.inReset = false)
    (hc : combinationHeld (holdTimersTick s) = false) : exec (.secondTick order) s = .next (shares order s) :=
  (whenAwake_awake (deliverTick order) hr).trans (congrArg _ (deliverTick_of_clear hn hc))

/-- Settles O31: a block at a time, each moved by its holder's share; and a full reset where the tick completes the
link combination. -/
theorem secondTickMovesEveryTimer : Obligations.SecondTickMovesEveryTimer := by
  unfold Obligations.SecondTickMovesEveryTimer
  intro order s hwf hr
  obtain ⟨views, hv, horder⟩ : ∃ views, (views = .viewEngine ∨ views = .viewTimers) ∧ Reaches order views :=
    (reaches_of_wellFormed hwf).elim (fun h => ⟨_, .inl rfl, h⟩) fun h => ⟨_, .inr rfl, h⟩
  have hn := horder.nodup hv
  have hmem (x : TickHolder) := (horder.mem x).mpr
  refine ⟨fun hclear => ⟨shares order s, exec_secondTick_clear hn hr hclear, ?_⟩,
    fun hheld => ⟨deliverTick order s, whenAwake_awake _ hr, deliverTick_resets (hmem .boardLinks (by simp)) hheld⟩⟩
  obtain ⟨hseconds, hminute, hclock, hretire⟩ := shares_clock (s := s) hn (hmem .serviceClock (by simp))
  obtain ⟨hport, hsilence, hstale⟩ := shares_port (s := s) hn (hmem .controlPort (by simp))
  have named {x : TickHolder} (hx : order.contains x = true) (hd : x = .viewEngine ∨ x = .viewTimers) : views = x := by
    by_contra hne
    obtain ⟨he, ht⟩ := horder.one_name (List.contains_iff_mem.mp hx) (Ne.symm hne)
    exact hd.elim he ht
  refine ⟨hseconds, hminute, hclock, hretire, hport, hsilence, hstale,
    shares_link hn (hmem .boardLinks (by simp)), fun v k hs hk => ?_, fun v => (shares_view horder hv v).2,
    shares_keep State.cmd order s, shares_keep State.dir order s, shares_keep State.mem order s,
    shares_keep State.store order s, shares_keep State.arb order s, shares_keep State.sweep order s,
    shares_keep State.phrases order s, shares_keep State.composer order s, shares_keep State.events order s,
    shares_keep State.pending order s, (shares_keep State.inReset order s).trans hr⟩
  obtain ⟨hfalls, hstarts⟩ := (shares_view horder hv v).1 k hs hk
  exact ⟨fun h => hfalls (h.imp_right fun hx => named hx (.inr rfl)),
    fun hle hx => hstarts hle (named hx (.inl rfl))⟩

end Sys2Proof.Proofs.SecondTick

/-!
PROOFS. The operations that move a view and its link, each said once: a pass start, a placement, the end of a view's
work by START VIEW, STOP VIEW and a loss, and RESTART's change of all four.
-/

namespace Sys2Proof.Proofs.ViewRules

open Sys2Proof Sys2Proof.Machine

section

variable {s t : State} {u v : Fin 4}

/-! ## Compositions in flight -/

theorem composingFor_congr (h : t.composer = s.composer) (v : Fin 4) : ComposingFor v t ↔ ComposingFor v s := by
  unfold ComposingFor
  rw [h]

/-- A composer that is free composes for no view. -/
theorem not_composingFor_free (h : t.composer.work = .free) (v : Fin 4) : ¬ ComposingFor v t := by
  simp [ComposingFor, h]

/-- An abandoned composition is said of the composer and the arbiter alone. -/
theorem abandonedFor_congr {s' t' : State} (hs : s'.composer = s.composer ∧ s'.arb = s.arb)
    (ht : t'.composer = t.composer ∧ t'.arb = t.arb) (h : AbandonedFor v s t) : AbandonedFor v s' t' := by
  unfold AbandonedFor ComposingFor State.grantOf at *
  rw [hs.1, hs.2, ht.1, ht.2]
  exact h

theorem abandonComposition_view (v u : Fin 4) (s : State) : (abandonComposition v s).view u = s.view u :=
  State.view_congr (abandonComposition_views v s) u

theorem abandonComposition_link (v u : Fin 4) (s : State) : (abandonComposition v s).link u = s.link u :=
  State.link_congr (abandonComposition_links v s) u

/-! ## A pass start (R78) -/

/-- The stale action makes itself felt in rows while the stale condition stands and P4 is 1 (R86). -/
theorem rowsStale_eq (s : State) : s.rowsStale = (s.port.stale && decide (s.params.staleAction = 1)) := by
  rw [State.rowsStale, Bool.and_comm]
  rfl

theorem startPass_view (v : Fin 4) (s : State) : (startPass v s).view v =
    (s.view v).passStarted (countPassing (passesFilter (s.view v).config) s)
      (s.rowsStale && s.params.noticePhrase != 0) := State.view_setView_same _ _ _

theorem startPass_other (hu : u ≠ v) (s : State) : (startPass v s).view u = s.view u :=
  State.view_setView_other _ _ hu

theorem startPass_link (v u : Fin 4) (s : State) : (startPass v s).link u = s.link u := rfl

/-! ## A placement (R87) -/

/-- The view whose row has been composed. -/
def rowDone (w : View) : View := { w with rowIndex := w.rowIndex + 1 }

theorem placeRow_empty {content : RowContent} (h : (s.link v).slot = none) : placeRow v content s =
    ((State.setComposing .free s).setLink v ((s.link v).sends (rowOf v content s))).setView v
      ((rowDone (s.view v)).resumed (rowDone (s.view v)).afterRow) := by
  simp only [placeRow, h]
  rfl

theorem placeRow_full {content : RowContent} (h : (s.link v).slot ≠ none) : placeRow v content s =
    ((State.setComposing .free s).setLink v { s.link v with parked := some (rowOf v content s) }).setView v
      { rowDone (s.view v) with state := .parked, resume := some (rowDone (s.view v)).afterRow } := by
  obtain ⟨r, hr⟩ := Option.ne_none_iff_exists'.mp h
  simp only [placeRow, hr]
  rfl

theorem placeRow_other (hu : u ≠ v) (content : RowContent) (s : State) :
    (placeRow v content s).view u = s.view u ∧ (placeRow v content s).link u = s.link u := by
  by_cases h : (s.link v).slot = none
  · rw [placeRow_empty h]
    exact ⟨State.view_setView_other _ _ hu, State.link_setLink_other _ _ hu⟩
  · rw [placeRow_full h]
    exact ⟨State.view_setView_other _ _ hu, State.link_setLink_other _ _ hu⟩

theorem placeRow_composer (v : Fin 4) (content : RowContent) (s : State) :
    (placeRow v content s).composer = { s.composer with work := .free } := by
  by_cases h : (s.link v).slot = none
  · rw [placeRow_empty h]
    rfl
  · rw [placeRow_full h]
    rfl

/-! ## A loss (R93) -/

theorem haltView_view (v : Fin 4) (s : State) : (haltView v s).view v = (s.view v).stopped .halted := by
  simp [haltView, abandonComposition_view]

theorem haltView_other (hu : u ≠ v) (s : State) : (haltView v s).view u = s.view u :=
  (State.view_setView_other _ _ hu).trans (abandonComposition_view v u s)

theorem haltView_link (v u : Fin 4) (s : State) : (haltView v s).link u = s.link u := abandonComposition_link v u s

theorem haltView_composing (hu : u ≠ v) (s : State) : ComposingFor u (haltView v s) ↔ ComposingFor u s :=
  abandonComposition_other hu s

theorem haltView_not_composing (v : Fin 4) (s : State) : ¬ ComposingFor v (haltView v s) :=
  abandonComposition_ends v s

theorem haltView_abandoned (v : Fin 4) (s : State) : AbandonedFor v s (haltView v s) :=
  abandonComposition_abandoned v s

/-! ## START VIEW (R94) -/

/-- The state at START VIEW's completion, before the completion itself. -/
def viewStarted (v : Fin 4) (s : State) : State := startPass v (reviveLink v (abandonComposition v (discardParked v s)))

theorem startViewCommand_eq (h : s.stagedView = some v) : startViewCommand s =
    done (some (passNumberBytes ((viewStarted v s).view v).passNumber)) false (viewStarted v s) := by
  simp only [startViewCommand, h, viewStarted]

/-- START VIEW's pass start comes after changes of the view's link and of the composer alone. -/
theorem viewStarted_view (v : Fin 4) (s : State) : (viewStarted v s).view v = (startPass v s).view v := by
  have hview : (reviveLink v (abandonComposition v (discardParked v s))).view v = s.view v :=
    State.view_congr (by simp) v
  simp only [viewStarted, startPass_view, hview, countPassing, State.entries, State.rowsStale, State.params,
    reviveLink_dir, reviveLink_port, abandonComposition_dir, abandonComposition_port, discardParked_dir,
    discardParked_port]

theorem viewStarted_other (hu : u ≠ v) (s : State) : (viewStarted v s).view u = s.view u :=
  (startPass_other hu _).trans (State.view_congr (by simp) u)

/-- The link of a HALTED view is IDLE and empty after START VIEW; any other keeps all but its parked row (R94). -/
theorem viewStarted_link (v : Fin 4) (s : State) : (viewStarted v s).link v =
    if (s.view v).state = .halted then { s.link v with parked := none, state := .idle, slot := none }
    else { s.link v with parked := none } := by
  rw [viewStarted, startPass_link, reviveLink, abandonComposition_view]
  by_cases hh : (s.view v).state = .halted
  · simp [discardParked, hh, abandonComposition_link]
  · simp [discardParked, hh, abandonComposition_link]

theorem viewStarted_otherLink (hu : u ≠ v) (s : State) : (viewStarted v s).link u = s.link u := by
  have hd : (abandonComposition v (discardParked v s)).link u = s.link u :=
    (abandonComposition_link v u _).trans (State.link_setLink_other _ _ hu)
  rw [viewStarted, startPass_link, reviveLink]
  split
  · exact (State.link_setLink_other _ _ hu).trans hd
  · exact hd

theorem viewStarted_composer (v : Fin 4) (s : State) :
    (viewStarted v s).composer = (abandonComposition v (discardParked v s)).composer := by
  simp [viewStarted]

theorem viewStarted_arb (v : Fin 4) (s : State) :
    (viewStarted v s).arb = (abandonComposition v (discardParked v s)).arb := by simp [viewStarted]

theorem viewStarted_composing (hu : u ≠ v) (s : State) : ComposingFor u (viewStarted v s) ↔ ComposingFor u s :=
  (composingFor_congr (viewStarted_composer v s) u).trans (abandonComposition_other hu _)

theorem viewStarted_not_composing (v : Fin 4) (s : State) : ¬ ComposingFor v (viewStarted v s) :=
  mt (composingFor_congr (viewStarted_composer v s) v).mp (abandonComposition_ends v _)

theorem viewStarted_abandoned (v : Fin 4) (s : State) : AbandonedFor v s (viewStarted v s) :=
  abandonedFor_congr ⟨rfl, rfl⟩ ⟨viewStarted_composer v s, viewStarted_arb v s⟩
    (abandonComposition_abandoned v (discardParked v s))

/-! ## STOP VIEW (R95) -/

/-- The state at STOP VIEW's completion for a view that is not HALTED, before the completion itself. -/
def viewStopped (v : Fin 4) (s : State) : State :=
  (abandonComposition v (discardParked v s)).setView v ((s.view v).stopped .idle)

theorem stopViewCommand_halted (h : s.stagedView = some v) (hh : (s.view v).state = .halted) :
    stopViewCommand s = done none false s := by
  simp only [stopViewCommand, h, if_pos hh]

theorem stopViewCommand_eq (h : s.stagedView = some v) (hh : (s.view v).state ≠ .halted) :
    stopViewCommand s = done none false (viewStopped v s) := by
  simp only [stopViewCommand, h, if_neg hh, viewStopped]

theorem viewStopped_view (v : Fin 4) (s : State) : (viewStopped v s).view v = (s.view v).stopped .idle :=
  State.view_setView_same _ _ _

theorem viewStopped_other (hu : u ≠ v) (s : State) : (viewStopped v s).view u = s.view u :=
  (State.view_setView_other _ _ hu).trans (abandonComposition_view v u _)

theorem viewStopped_link (v : Fin 4) (s : State) : (viewStopped v s).link v = { s.link v with parked := none } :=
  (abandonComposition_link v v _).trans (State.link_setLink_same _ _ _)

theorem viewStopped_otherLink (hu : u ≠ v) (s : State) : (viewStopped v s).link u = s.link u :=
  (abandonComposition_link v u _).trans (State.link_setLink_other _ _ hu)

theorem viewStopped_composing (hu : u ≠ v) (s : State) : ComposingFor u (viewStopped v s) ↔ ComposingFor u s :=
  abandonComposition_other hu (discardParked v s)

theorem viewStopped_not_composing (v : Fin 4) (s : State) : ¬ ComposingFor v (viewStopped v s) :=
  abandonComposition_ends v (discardParked v s)

theorem viewStopped_abandoned (v : Fin 4) (s : State) : AbandonedFor v s (viewStopped v s) :=
  abandonComposition_abandoned v (discardParked v s)

/-! ## RESTART (R111, R157) -/

theorem abandonAll_not_composing (v : Fin 4) (s : State) : ¬ ComposingFor v (abandonAll s) := by
  have h0 := abandonComposition_ends 0 s
  have h1 := abandonComposition_ends 1 (abandonComposition 0 s)
  have h2 := abandonComposition_ends 2 (abandonComposition 1 (abandonComposition 0 s))
  match v with
  | 0 => exact abandonComposition_still 3 (abandonComposition_still 2 (abandonComposition_still 1 h0))
  | 1 => exact abandonComposition_still 3 (abandonComposition_still 2 h1)
  | 2 => exact abandonComposition_still 3 h2
  | 3 => exact abandonComposition_ends 3 _

theorem restartCommand_view (v : Fin 4) (s : State) : (restartCommand s).view v = (s.view v).stopped .idle := by
  simp [restartCommand, State.view, abandonAll]

theorem restartCommand_link (v : Fin 4) (s : State) : (restartCommand s).link v = (s.link v).restarted := by
  simp [restartCommand, State.link, abandonAll]

theorem restartCommand_composer (s : State) : (restartCommand s).composer = (abandonAll s).composer := by
  simp [restartCommand]

end

end Sys2Proof.Proofs.ViewRules

/-!
PROOFS. The law of the views and the links (R76, R79, R88, R99, R100). The law speaks of one view and its link at a time
and reads besides them only which view the composer works for. Most commands and rows touch none of the three. A row
placed, a TAKE, a loss, a pass start and the view commands each move one view and its link, by a rule of their own;
RESTART and the resets move all four.
-/

namespace Sys2Proof.Proofs.KeepsViewsAndLinksLaw

open Sys2Proof Sys2Proof.Machine Sys2Proof.Proofs.SecondTick Sys2Proof.Proofs.ViewRules

/-! ## A view and its link -/

/-- `LinkLaw` and `ViewLaw` of a view, its link, and whether a composition is in flight for it. -/
structure Agree (w : View) (l : Link) (composing : Prop) : Prop where
  link : LinkLaw l
  lost : w.state = .halted ↔ l.state = .lost
  parked : w.state = .parked ↔ l.parked ≠ none
  resume : w.state = .parked ↔ w.resume ≠ none
  timer : w.state = .resting ↔ w.refreshTimer ≠ none
  running : composing → w.state = .running

theorem law_iff (s : State) : ViewsAndLinksLaw s ↔ ∀ v, Agree (s.view v) (s.link v) (ComposingFor v s) :=
  forall_congr' fun _ =>
    ⟨fun ⟨hl, h1, h2, h3, h4, h5⟩ => ⟨hl, h1, h2, h3, h4, h5⟩, fun ⟨hl, h1, h2, h3, h4, h5⟩ => ⟨hl, h1, h2, h3, h4, h5⟩⟩

/-- A view that is neither HALTED nor PARKED, its resume action absent, its timer running only while it is RESTING. -/
structure Settled (w : View) : Prop where
  up : w.state ≠ .halted
  unparked : w.state ≠ .parked
  resume : w.resume = none
  timer : w.state = .resting ↔ w.refreshTimer ≠ none

section

variable {w w' : View} {l l' : Link} {c c' : Prop}

/-- A settled view agrees with a link that is not LOST and has no parked row. -/
theorem Settled.agree (h : Settled w) (hl : LinkLaw l) (hlost : l.state ≠ .lost) (hp : l.parked = none)
    (hc : c → w.state = .running) : Agree w l c :=
  ⟨hl, by simp [h.up, hlost], by simp [h.unparked, hp], by simp [h.unparked, h.resume], h.timer, hc⟩

/-- What the law reads of a view is unchanged, as is what it reads of a link, and no composition has begun. -/
theorem Agree.congr (h : Agree w l c) (hs : w'.state = w.state) (hr : w'.resume = w.resume)
    (ht : w'.refreshTimer = none ↔ w.refreshTimer = none) (hl : LinkLaw l') (hls : l'.state = l.state)
    (hp : l'.parked = l.parked) (hc : c' → c) : Agree w' l' c' where
  link := hl
  lost := by rw [hs, hls]; exact h.lost
  parked := by rw [hs, hp]; exact h.parked
  resume := by rw [hs, hr]; exact h.resume
  timer := by rw [hs, ne_eq, ht]; exact h.timer
  running hc' := hs.trans (h.running (hc hc'))

/-- A view that is neither HALTED nor PARKED is settled, its link not LOST and without a parked row. -/
theorem Agree.settled (h : Agree w l c) (hh : w.state ≠ .halted) (hp : w.state ≠ .parked) :
    Settled w ∧ l.state ≠ .lost ∧ l.parked = none :=
  ⟨⟨hh, hp, not_not.mp (mt h.resume.mpr hp), h.timer⟩, mt h.lost.mpr hh, not_not.mp (mt h.parked.mpr hp)⟩

/-- The timer of a view that is not RESTING is stopped. -/
theorem Agree.noTimer (h : Agree w l c) (hr : w.state ≠ .resting) : w.refreshTimer = none :=
  not_not.mp (mt h.timer.mpr hr)

/-- The state that a resume action names is a settled one, for a view whose timer is stopped (R88). -/
theorem settled_resumed (ht : w.refreshTimer = none) (r : Resume) : Settled (w.resumed r) := by
  cases r <;> constructor <;> simp [View.resumed, ht]

theorem settled_passStarted (w : View) (n : Nat) (due : Bool) : Settled (w.passStarted n due) := by
  constructor <;> simp [View.passStarted]

/-! ## The link's own law -/

theorem rowFrame_ne_nil (r : Row) : rowFrame r ≠ [] := by simp [rowFrame]

/-- A link that begins to send a row obeys the law, whatever it did before (R102). -/
theorem linkLaw_sends (l : Link) (r : Row) : LinkLaw (l.sends r) := by
  simp [LinkLaw, Link.sends, rowFrame_ne_nil]

/-- A link whose slot is full may park a row (R88). -/
theorem linkLaw_park (h : LinkLaw l) (hs : l.slot ≠ none) (r : Row) : LinkLaw { l with parked := some r } := by
  obtain ⟨hslot, _, htimer, hframe⟩ := h
  exact ⟨hslot, fun hn => absurd hn hs, htimer, hframe⟩

/-- A link's parked row may be discarded (R94, R95). -/
theorem linkLaw_unpark (h : LinkLaw l) : LinkLaw { l with parked := none } := by
  obtain ⟨hslot, _, htimer, hframe⟩ := h
  exact ⟨hslot, fun _ => rfl, htimer, hframe⟩

/-- A link without rows that neither sends nor waits for a TAKE obeys the law in IDLE and in LOST. -/
theorem linkLaw_empty (hst : l.state = .idle ∨ l.state = .lost) (hs : l.slot = none) (hp : l.parked = none)
    (ht : l.takeTimer = none) (hf : l.frame = []) : LinkLaw l := by
  rcases hst with hst | hst <;> simp [LinkLaw, hst, hs, hp, ht, hf]

/-- While a link waits for a TAKE, its frame is at rest. -/
theorem frame_of_notSending (h : LinkLaw l) (hn : l.state ≠ .sending) : l.frame = [] :=
  not_not.mp (mt h.2.2.2.mp hn)

theorem takeTimer_of_notAwaiting (h : LinkLaw l) (hn : l.state ≠ .awaitTake) : l.takeTimer = none :=
  not_not.mp (mt h.2.2.1.mp hn)

/-- A link whose state, rows, frame and take timer are those of a lawful one is lawful. -/
theorem linkLaw_congr (h : LinkLaw l) (hst : l'.state = l.state) (hs : l'.slot = l.slot) (hp : l'.parked = l.parked)
    (ht : l'.takeTimer = l.takeTimer) (hf : l'.frame = l.frame) : LinkLaw l' := by
  unfold LinkLaw
  rw [hst, hs, hp, ht, hf]
  exact h

end

/-! ## Changes of the state -/

section

variable {s t : State} {v : Fin 4}

theorem agree_of_law (h : ViewsAndLinksLaw s) (v : Fin 4) : Agree (s.view v) (s.link v) (ComposingFor v s) :=
  (law_iff s).mp h v

theorem law_of_same (h : ViewsAndLinksLaw s) (hv : t.views = s.views) (hl : t.links = s.links)
    (hc : ∀ v, ComposingFor v t → (s.view v).state = .running) : ViewsAndLinksLaw t :=
  (law_iff t).mpr fun v => by
    obtain ⟨hlink, hlost, hparked, hresume, htimer, _⟩ := agree_of_law h v
    rw [State.view_congr hv, State.link_congr hl]
    exact ⟨hlink, hlost, hparked, hresume, htimer, hc v⟩

/-- A change of one view and its link, which starts no composition for another view. -/
theorem law_of_one (h : ViewsAndLinksLaw s) (v : Fin 4)
    (others : ∀ u, u ≠ v → t.view u = s.view u ∧ t.link u = s.link u ∧ (ComposingFor u t → ComposingFor u s))
    (hv : Agree (t.view v) (t.link v) (ComposingFor v t)) : ViewsAndLinksLaw t :=
  (law_iff t).mpr fun u => by
    by_cases hu : u = v
    · exact hu ▸ hv
    · obtain ⟨hview, hlink, hc⟩ := others u hu
      obtain ⟨h1, h2, h3, h4, h5, h6⟩ := agree_of_law h u
      rw [hview, hlink]
      exact ⟨h1, h2, h3, h4, h5, fun hct => h6 (hc hct)⟩

/-- The views, the links and the composer stand as they stood. -/
structure Quiet (s t : State) : Prop where
  views : t.views = s.views
  links : t.links = s.links
  composer : t.composer = s.composer

theorem Quiet.keeps (q : Quiet s t) (h : ViewsAndLinksLaw s) : ViewsAndLinksLaw t :=
  law_of_same h q.views q.links fun v hc => (agree_of_law h v).running ((composingFor_congr q.composer v).mp hc)

theorem Quiet.refl (s : State) : Quiet s s := ⟨rfl, rfl, rfl⟩

theorem Quiet.trans {u : State} (q : Quiet s t) (q' : Quiet t u) : Quiet s u :=
  ⟨q'.views.trans q.views, q'.links.trans q.links, q'.composer.trans q.composer⟩

/-! ## Operations that leave the views and the links -/

theorem refuse_quiet (rc : ResultCode) : Quiet s (refuse rc s) := by
  constructor <;> simp

theorem done_quiet (out : Option (List Byte)) (q : Bool) : Quiet s (done out q s) := by
  constructor <;> simp

theorem endGrant_quiet : Quiet s (endGrant s) := by
  constructor <;> simp

theorem completeGrant_quiet (rc : ResultCode) (out : Option (List Byte)) (q : Bool) :
    Quiet s (completeGrant rc out q s) := by
  constructor <;> simp

theorem refuseGrant_quiet (rc : ResultCode) : Quiet s (refuseGrant rc s) := by
  constructor <;> simp

theorem setProgress_quiet (g : Grant) (p : Progress) : Quiet s (setProgress g p s) := by
  constructor <;> simp

theorem requestPort_quiet (r : Requester) : Quiet s (requestPort r s) := by
  constructor <;> simp

theorem raiseEvent_quiet (k : EventKind) (slot key : Option Nat) (b : Option Bank) (l : Option (Fin 4)) (op : Operation) :
    Quiet s (raiseEvent k slot key b l op s) := by
  constructor <;> simp

theorem insertClaim_quiet {e : Entry} {rank : Nat} (ha : insertClaim e s = .served rank t) : Quiet s t :=
  ⟨insertClaim_views ha, insertClaim_links ha, insertClaim_composer ha⟩

theorem updateClaim_quiet {key slot : Nat} {e : Entry} {rank : Nat} (ha : updateClaim key slot e s = .served rank t) :
    Quiet s t := ⟨updateClaim_views ha, updateClaim_links ha, updateClaim_composer ha⟩

section

variable {op : Operation} {slot key : Nat}

theorem readPrimary_quiet {a : ReadAnswer} (ha : readPrimary op slot key s = a) : Quiet s a.after := by
  rw [← ha]
  constructor <;> simp

theorem readMirrored_quiet {a : ReadAnswer} (ha : readMirrored op slot key s = a) : Quiet s a.after := by
  rw [← ha]
  constructor <;> simp

theorem readBody_quiet {a : ReadAnswer} (ha : readBody op slot key s = a) : Quiet s a.after := by
  rw [← ha]
  constructor <;> simp

theorem writeBody_quiet {r : RecordBody} {a : WriteAnswer} (ha : writeBody op slot r s = a) : Quiet s a.after := by
  rw [← ha]
  constructor <;> simp

end

/-! ## Commands that leave the views and the links (R155) -/

theorem addCommand_quiet : Quiet s (addCommand s) := by
  unfold addCommand
  (repeat' split) <;> constructor <;> simp

theorem amendCommand_quiet : Quiet s (amendCommand s) := by
  unfold amendCommand
  (repeat' split) <;> constructor <;> simp

theorem retireCommand_quiet : Quiet s (retireCommand s) := by
  unfold retireCommand
  (repeat' split) <;> constructor <;> simp

theorem retireLookup_quiet : Quiet s (retireLookup s) := by
  unfold retireLookup
  (repeat' split) <;> constructor <;> simp

theorem beginAttempt_quiet (how : Find) : Quiet s (beginAttempt how s) := by
  unfold beginAttempt
  (repeat' split) <;> constructor <;> simp

theorem fetchCommand_quiet : Quiet s (fetchCommand s) := by
  unfold fetchCommand
  split
  · exact refuse_quiet _
  · exact beginAttempt_quiet _

theorem fetchRankCommand_quiet : Quiet s (fetchRankCommand s) := by
  unfold fetchRankCommand
  split
  · exact refuse_quiet _
  · exact beginAttempt_quiet _

theorem findNextCommand_quiet : Quiet s (findNextCommand s) := by
  unfold findNextCommand
  repeat' split
  · exact refuse_quiet _
  · exact refuse_quiet _
  · exact beginAttempt_quiet _

theorem definePhraseCommand_quiet : Quiet s (definePhraseCommand s) := by
  simp only [definePhraseCommand]
  (repeat' split) <;> constructor <;> simp

theorem retirePhraseCommand_quiet : Quiet s (retirePhraseCommand s) := by
  simp only [retirePhraseCommand]
  (repeat' split) <;> constructor <;> simp

theorem readPhraseCommand_quiet : Quiet s (readPhraseCommand s) := by
  simp only [readPhraseCommand]
  split <;> constructor <;> simp

theorem readViewCommand_quiet : Quiet s (readViewCommand s) := by
  unfold readViewCommand
  split <;> constructor <;> simp

theorem setClockCommand_quiet : Quiet s (setClockCommand s) := by
  unfold setClockCommand
  split <;> constructor <;> simp

theorem newDayCommand_quiet : Quiet s (newDayCommand s) := by
  unfold newDayCommand
  (repeat' split) <;> constructor <;> simp

theorem setStoreStateCommand_quiet : Quiet s (setStoreStateCommand s) := by
  unfold setStoreStateCommand
  (repeat' split) <;> constructor <;> simp

theorem checkTestCommand_quiet : Quiet s (checkTestCommand s) := by
  unfold checkTestCommand
  split <;> constructor <;> simp

theorem setParameterCommand_quiet : Quiet s (setParameterCommand s) := by
  simp only [setParameterCommand]
  split <;> constructor <;> simp

theorem readParameterCommand_quiet : Quiet s (readParameterCommand s) := by
  simp only [readParameterCommand]
  split <;> constructor <;> simp

theorem clearEventsCommand_quiet : Quiet s (clearEventsCommand s) := by
  unfold clearEventsCommand
  split <;> constructor <;> simp

theorem setMasksCommand_quiet : Quiet s (setMasksCommand s) := by
  unfold setMasksCommand
  split <;> constructor <;> simp

theorem readCaptureCommand_quiet : Quiet s (readCaptureCommand s) := by
  unfold readCaptureCommand
  split <;> constructor <;> simp

theorem clearCaptureCommand_quiet : Quiet s (clearCaptureCommand s) := by
  unfold clearCaptureCommand
  split <;> constructor <;> simp

/-! ## Rows that leave the views and the links -/

theorem addInsert_quiet (slot : Nat) (r : RecordBody) : Quiet s (addInsert slot r s) := by
  unfold addInsert
  split
  case h_1 ha => exact (insertClaim_quiet ha).trans (completeGrant_quiet _ _ _)
  all_goals exact refuseGrant_quiet _

theorem addGrantStep_quiet (x : Extent) : Quiet s (addGrantStep x s) := by
  unfold addGrantStep addGrantWork
  repeat' split
  any_goals exact .refl s
  · exact addInsert_quiet _ _
  · next ha => exact (writeBody_quiet ha).trans (refuseGrant_quiet _)
  · next ha => exact (writeBody_quiet ha).trans (refuseGrant_quiet _)
  · next ha _ => exact (writeBody_quiet ha).trans (addInsert_quiet _ _)
  · next ha _ => exact (writeBody_quiet ha).trans (setProgress_quiet _ _)

theorem amendUpdate_quiet (key slot : Nat) (r : RecordBody) : Quiet s (amendUpdate key slot r s) := by
  unfold amendUpdate
  split
  case h_1 ha => exact (updateClaim_quiet ha).trans (completeGrant_quiet _ _ _)
  all_goals exact refuseGrant_quiet _

theorem amendWrite_quiet (x : Extent) (g : Grant) (key slot : Nat) (r : RecordBody) :
    Quiet s (amendWrite x g key slot r s) := by
  unfold amendWrite
  repeat' split
  · next ha => exact (writeBody_quiet ha).trans (refuseGrant_quiet _)
  · next ha => exact (writeBody_quiet ha).trans (refuseGrant_quiet _)
  · next ha _ => exact (writeBody_quiet ha).trans (amendUpdate_quiet _ _ _)
  · next ha _ => exact (writeBody_quiet ha).trans (setProgress_quiet _ _)

theorem amendGrantStep_quiet (x : Extent) : Quiet s (amendGrantStep x s) := by
  unfold amendGrantStep amendGrantWork
  repeat' split
  any_goals exact .refl s
  · exact amendUpdate_quiet _ _ _
  · next ha => exact (readBody_quiet ha).trans (amendWrite_quiet _ _ _ _ _)
  all_goals next ha => exact (readBody_quiet ha).trans (refuseGrant_quiet _)

theorem attemptAnew_quiet (x : Extent) (how : Find) (key slot : Nat) : Quiet s (attemptAnew x how key slot s) := by
  have hend : Quiet s (endGrant (s.setCmd (some (.refetch how key slot)))) := by constructor <;> simp
  cases x
  · exact hend.trans (beginAttempt_quiet how)
  · exact hend

theorem attemptFailed_quiet (x : Extent) (how : Find) (key slot : Nat) : Quiet s (attemptFailed x how key slot s) := by
  cases how
  · exact refuseGrant_quiet _
  · exact attemptAnew_quiet _ _ _ _
  · exact attemptAnew_quiet _ _ _ _

theorem fetchRecheck_quiet (x : Extent) (how : Find) (key slot : Nat) (r : RecordBody) :
    Quiet s (fetchRecheck x how key slot r s) := by
  unfold fetchRecheck
  repeat' split
  · exact refuseGrant_quiet _
  · exact completeGrant_quiet _ _ _
  · exact attemptFailed_quiet _ _ _ _

theorem fetchGrantWork_quiet (x : Extent) (g : Grant) (how : Find) (key slot : Nat) :
    Quiet s (fetchGrantWork x g how key slot s) := by
  unfold fetchGrantWork
  split
  · exact fetchRecheck_quiet _ _ _ _ _
  · exact .refl s
  · split <;> rename_i ha
    · cases x
      · exact (readBody_quiet ha).trans (fetchRecheck_quiet _ _ _ _ _)
      · exact (readBody_quiet ha).trans (setProgress_quiet _ _)
    · exact (readBody_quiet ha).trans (refuseGrant_quiet _)
    · exact (readBody_quiet ha).trans (attemptFailed_quiet _ _ _ _)
    · exact (readBody_quiet ha).trans (refuseGrant_quiet _)
    · exact (readBody_quiet ha).trans (refuseGrant_quiet _)

theorem fetchGrantStep_quiet (x : Extent) : Quiet s (fetchGrantStep x s) := by
  unfold fetchGrantStep
  split
  · exact fetchGrantWork_quiet _ _ _ _ _
  · exact beginAttempt_quiet _
  · exact .refl s

theorem newDayVisitStep_quiet : Quiet s (newDayVisitStep s) := by
  unfold newDayVisitStep newDayVisitClaim newDayEnd
  (repeat' split) <;> constructor <;> simp

theorem nextVisit_quiet (d : NewDay) : Quiet s (nextVisit d s) := by
  unfold nextVisit
  constructor <;> simp

theorem rebaseUpdate_quiet (d : NewDay) (key slot : Nat) (r : RecordBody) (clamped : Bool) :
    Quiet s (rebaseUpdate d key slot r clamped s) := by
  unfold rebaseUpdate
  split
  case h_1 ha => exact (updateClaim_quiet ha).trans (nextVisit_quiet _)
  all_goals exact nextVisit_quiet _

theorem rebaseWrite_quiet (x : Extent) (g : Grant) (d : NewDay) (key slot : Nat) (r : RecordBody) (clamped : Bool) :
    Quiet s (rebaseWrite x g d key slot r clamped s) := by
  unfold rebaseWrite
  repeat' split
  · next ha => exact (writeBody_quiet ha).trans (nextVisit_quiet _)
  · next ha => exact (writeBody_quiet ha).trans (nextVisit_quiet _)
  · next ha _ => exact (writeBody_quiet ha).trans (rebaseUpdate_quiet _ _ _ _ _)
  · next ha _ => exact (writeBody_quiet ha).trans (setProgress_quiet _ _)

theorem rebaseGrantStep_quiet (x : Extent) : Quiet s (rebaseGrantStep x s) := by
  unfold rebaseGrantStep rebaseGrantWork
  repeat' split
  any_goals exact .refl s
  · exact rebaseUpdate_quiet _ _ _ _ _
  · next ha => exact (readBody_quiet ha).trans (rebaseWrite_quiet _ _ _ _ _ _ _)
  all_goals next ha => exact (readBody_quiet ha).trans (nextVisit_quiet _)

theorem storeStateGrantStep_quiet : Quiet s (storeStateGrantStep s) := by
  unfold storeStateGrantStep enterState
  (repeat' split) <;> constructor <;> simp

theorem checkTestGrantStep_quiet : Quiet s (checkTestGrantStep s) := by
  unfold checkTestGrantStep
  split <;> constructor <;> simp

theorem retireRemoveStep_quiet : Quiet s (retireRemoveStep s) := by
  unfold retireRemoveStep retireRemove
  (repeat' split) <;> constructor <;> simp

theorem clockTick_quiet : Quiet s (clockTick s) := by
  constructor <;> simp

theorem passStep_quiet : Quiet s (passStep s) := by
  constructor <;> simp

theorem arriveDisturbance_quiet (b : Bank) (n : Nat) (k : DisturbanceKind) : Quiet s (arriveDisturbance b n k s) := by
  constructor <;> simp

theorem minuteAdvanceStep_quiet : Quiet s (minuteAdvanceStep s) := by
  unfold minuteAdvanceStep
  split <;> constructor <;> simp

theorem copierWrite_quiet (slot : Nat) (v : Contents) : Quiet s (copierWrite slot v s) := by
  simp only [copierWrite, copierAdvance]
  (repeat' split) <;> constructor <;> simp

theorem copierAccess_quiet (slot : Nat) (live : Option Nat) : Quiet s (copierAccess slot live s) := by
  unfold copierAccess
  split
  · exact copierWrite_quiet _ _
  · split <;> rename_i ha
    · exact (readPrimary_quiet ha).trans (copierWrite_quiet _ _)
    · exact (readPrimary_quiet ha).trans (copierWrite_quiet _ _)
    · exact (readPrimary_quiet ha).trans (copierWrite_quiet _ _)
    · exact (readPrimary_quiet ha).trans endGrant_quiet
    · exact (readPrimary_quiet ha).trans endGrant_quiet

theorem copierGrantStep_quiet (x : Extent) : Quiet s (copierGrantStep x s) := by
  unfold copierGrantStep copierWork
  repeat' split
  any_goals exact .refl s
  · exact copierAccess_quiet _ _
  · exact copierAccess_quiet _ _
  · exact setProgress_quiet _ _
  · exact endGrant_quiet

theorem clearingStepWork_quiet : Quiet s (clearingStepWork s) := by
  unfold clearingStepWork
  split <;> constructor <;> simp

theorem sweepExpiryStep_quiet : Quiet s (sweepExpiryStep s) := by
  unfold sweepExpiryStep
  split <;> constructor <;> simp

theorem sweepSecondary_quiet (slot key : Nat) : Quiet s (sweepSecondary slot key s) := by
  simp only [sweepSecondary, sweepRewrite]
  (repeat' split) <;> constructor <;> simp

theorem endSweepStep_quiet (slot : Nat) : Quiet s (endSweepStep slot s) := by
  unfold endSweepStep
  constructor <;> simp

theorem sweepMirrored_quiet (slot key : Nat) : Quiet s (sweepMirrored slot key s) := by
  unfold sweepMirrored
  split <;> rename_i ha
  · split
    · exact ((readMirrored_quiet ha).trans (sweepSecondary_quiet _ _)).trans (endSweepStep_quiet _)
    · exact (readMirrored_quiet ha).trans (endSweepStep_quiet _)
  · exact (readMirrored_quiet ha).trans (endSweepStep_quiet _)
  · exact (readMirrored_quiet ha).trans (endSweepStep_quiet _)
  · exact (readMirrored_quiet ha).trans endGrant_quiet
  · exact (readMirrored_quiet ha).trans endGrant_quiet

theorem sweepPrimary_quiet (slot key : Nat) : Quiet s (sweepPrimary slot key s) := by
  unfold sweepPrimary
  split <;> rename_i ha
  · exact (readPrimary_quiet ha).trans (endSweepStep_quiet _)
  · exact (readPrimary_quiet ha).trans (endSweepStep_quiet _)
  · exact (readPrimary_quiet ha).trans (endSweepStep_quiet _)
  · exact (readPrimary_quiet ha).trans endGrant_quiet
  · exact (readPrimary_quiet ha).trans endGrant_quiet

theorem sweepAccess_quiet (slot : Nat) (live : Option Nat) : Quiet s (sweepAccess slot live s) := by
  unfold sweepAccess sweepLive
  repeat' split
  · exact endSweepStep_quiet _
  · exact sweepPrimary_quiet _ _
  · exact sweepPrimary_quiet _ _
  · exact sweepMirrored_quiet _ _
  all_goals exact endGrant_quiet

theorem sweepGrantStep_quiet (x : Extent) : Quiet s (sweepGrantStep x s) := by
  unfold sweepGrantStep sweepWork
  repeat' split
  any_goals exact .refl s
  · exact sweepAccess_quiet _ _
  · exact sweepAccess_quiet _ _
  · exact setProgress_quiet _ _

/-! ## One view or one link is put -/

/-- Two views stand alike in what the law reads of a view. -/
structure SameStanding (w w' : View) : Prop where
  state : w'.state = w.state
  resume : w'.resume = w.resume
  timer : w'.refreshTimer = w.refreshTimer

theorem SameStanding.trans {w w' w'' : View} (h : SameStanding w w') (h' : SameStanding w' w'') : SameStanding w w'' :=
  ⟨h'.state.trans h.state, h'.resume.trans h.resume, h'.timer.trans h.timer⟩

theorem setView_keeps {w : View} (h : ViewsAndLinksLaw s) (hw : SameStanding (s.view v) w) :
    ViewsAndLinksLaw (s.setView v w) := by
  have hv := agree_of_law h v
  refine law_of_one h v (fun u hu => ⟨State.view_setView_other _ _ hu, rfl, id⟩) ?_
  rw [State.view_setView_same]
  exact hv.congr hw.state hw.resume (by rw [hw.timer]) hv.link rfl rfl id

/-- A link is put whose state and parked row stay. -/
theorem setLink_keeps {l : Link} (h : ViewsAndLinksLaw s) (hl : LinkLaw l) (hst : l.state = (s.link v).state)
    (hp : l.parked = (s.link v).parked) : ViewsAndLinksLaw (s.setLink v l) := by
  refine law_of_one h v (fun u hu => ⟨rfl, State.link_setLink_other _ _ hu, id⟩) ?_
  rw [State.link_setLink_same]
  exact (agree_of_law h v).congr rfl rfl Iff.rfl hl hst hp id

/-- The composer may work for a view that is RUNNING (R79). -/
theorem composes_keeps {c : Composer} (h : ViewsAndLinksLaw s) (hr : (s.view v).state = .running)
    (hc : c.work = .taken v ∨ c.work = .searching v ∨ ∃ e, c.work = .candidate v e) :
    ViewsAndLinksLaw (s.setComposer c) := by
  refine law_of_same h rfl rfl fun u hu => ?_
  have huv : u = v := by
    unfold ComposingFor at hu
    rcases hc with hc | hc | ⟨e, hc⟩ <;> simp_all
  exact huv ▸ hr

/-- A pass starts in a view that is neither HALTED nor PARKED (R78). -/
theorem startPass_keeps (h : ViewsAndLinksLaw s) (hh : (s.view v).state ≠ .halted) (hp : (s.view v).state ≠ .parked) :
    ViewsAndLinksLaw (startPass v s) := by
  have hv := agree_of_law h v
  obtain ⟨_, hlost, hparked⟩ := hv.settled hh hp
  refine law_of_one h v (fun u hu => ⟨startPass_other hu s, rfl, id⟩) ?_
  rw [startPass_view]
  exact (settled_passStarted _ _ _).agree hv.link hlost hparked fun _ => rfl

/-! ## The composer (R79 to R87) -/

/-- A row composed for a RUNNING view is placed (R87): in an empty slot, whose link is then IDLE and begins to send it,
or parked behind the row that fills the slot. -/
theorem placeRow_keeps (h : ViewsAndLinksLaw s) (hr : (s.view v).state = .running) (content : RowContent) :
    ViewsAndLinksLaw (placeRow v content s) := by
  have hv := agree_of_law h v
  have hfree (u : Fin 4) : ¬ ComposingFor u (placeRow v content s) :=
    not_composingFor_free (by rw [placeRow_composer]) u
  have htimer : (s.view v).refreshTimer = none := hv.noTimer (by simp [hr])
  obtain ⟨hsettled, hlost, hparked⟩ := hv.settled (by simp [hr]) (by simp [hr])
  refine law_of_one h v (fun u hu => ⟨(placeRow_other hu _ _).1, (placeRow_other hu _ _).2, (absurd · (hfree u))⟩) ?_
  by_cases hs : (s.link v).slot = none
  · have hcomp := hfree v
    rw [placeRow_empty hs] at hcomp ⊢
    rw [State.view_setView_same, State.link_setView, State.link_setLink_same]
    exact (settled_resumed (w := rowDone (s.view v)) htimer _).agree (linkLaw_sends _ _) (by simp [Link.sends]) hparked
      (absurd · hcomp)
  · have hcomp := hfree v
    rw [placeRow_full hs] at hcomp ⊢
    rw [State.view_setView_same, State.link_setView, State.link_setLink_same]
    exact ⟨linkLaw_park hv.link hs _, by simp [hlost], by simp, by simp, by simp [rowDone, htimer], (absurd · hcomp)⟩

/-- The view that a search's answer leaves. -/
def answerView : SearchAnswer → View
  | .again w => w
  | .nothing w => w
  | .candidate w _ => w

/-- A claim of a search moves the view's place in the order, and nothing that the law reads (R80). -/
theorem searchClaim_standing (w : View) (s : State) : SameStanding w (answerView (searchClaim w s)) := by
  unfold searchClaim
  (repeat' split) <;> exact ⟨rfl, rfl, rfl⟩

theorem searchWithin_standing (n : Nat) (w : View) (s : State) : SameStanding w (answerView (searchWithin n w s)) := by
  induction n generalizing w with
  | zero => exact ⟨rfl, rfl, rfl⟩
  | succ n ih =>
    have hc := searchClaim_standing w s
    rw [searchWithin_succ]
    generalize searchClaim w s = a at hc
    cases a with
    | again w' => exact hc.trans (ih w')
    | nothing w' => exact hc
    | candidate w' e => exact hc

/-- A search for a RUNNING view goes on: the composer works for that view, or its BLANK row is placed (R80, R85). -/
theorem continueSearch_keeps (h : ViewsAndLinksLaw s) (hr : (s.view v).state = .running) (x : Extent) :
    ViewsAndLinksLaw (continueSearch x v s) := by
  have hw := searchWithin_standing (searchLength x (s.view v)) (s.view v) s
  rw [continueSearch_eq]
  generalize searchWithin (searchLength x (s.view v)) (s.view v) s = a at hw
  have hput : ViewsAndLinksLaw (s.setView v (answerView a)) := setView_keeps h hw
  have hrun : ((s.setView v (answerView a)).view v).state = .running := by
    rw [State.view_setView_same]
    exact hw.state.trans hr
  cases a with
  | again w => exact composes_keeps hput hrun (.inr (.inl rfl))
  | nothing w => exact placeRow_keeps hput hrun _
  | candidate w e =>
    have hcand : ViewsAndLinksLaw (State.setComposing (.candidate v e) (s.setView v w)) :=
      composes_keeps hput hrun (.inr (.inr ⟨e, rfl⟩))
    exact (requestPort_quiet _).keeps hcand

theorem composeOther_keeps (h : ViewsAndLinksLaw s) (hr : (s.view v).state = .running) (x : Extent) :
    ViewsAndLinksLaw (composeOther x v s) := by
  unfold composeOther
  split
  · exact placeRow_keeps h hr _
  · exact continueSearch_keeps h hr x

theorem composeRow_keeps (h : ViewsAndLinksLaw s) (hr : (s.view v).state = .running) (x : Extent) :
    ViewsAndLinksLaw (composeRow x v s) := by
  have hput : ViewsAndLinksLaw (s.setView v { s.view v with noticeDue := false }) := setView_keeps h ⟨rfl, rfl, rfl⟩
  have hrun : ((s.setView v { s.view v with noticeDue := false }).view v).state = .running := by
    rw [State.view_setView_same]
    exact hr
  simp only [composeRow]
  split
  · split
    · exact placeRow_keeps hput hrun _
    · cases x
      · exact composeOther_keeps hput hrun _
      · exact hput
  · exact composeOther_keeps h hr x

/-- A view that is ready to compose is RUNNING (R79). -/
theorem running_of_nextReady (hn : nextReady s = some v) : (s.view v).state = .running := by
  have hready := List.find?_some hn
  simp only [State.viewReady, Bool.and_eq_true, decide_eq_true_eq] at hready
  exact hready.1.1

theorem compositionStep_keeps (h : ViewsAndLinksLaw s) (x : Extent) : ViewsAndLinksLaw (compositionStep x s) := by
  have running {v : Fin 4} (hc : ComposingFor v s) : (s.view v).state = .running := (agree_of_law h v).running hc
  unfold compositionStep
  split
  · unfold startComposition
    split
    · exact h
    · next v hn =>
      have hrun := running_of_nextReady hn
      have htaken : ViewsAndLinksLaw (takeView v s) := composes_keeps h hrun (.inl rfl)
      cases x
      · exact composeRow_keeps htaken hrun _
      · exact htaken
  · next v hw => exact composeRow_keeps h (running (.inl hw)) x
  · next v hw => exact continueSearch_keeps h (running (.inr (.inl hw))) x
  · exact h
  · exact h

theorem searchAgain_keeps (h : ViewsAndLinksLaw s) (hr : (s.view v).state = .running) (x : Extent) :
    ViewsAndLinksLaw (searchAgain x v s) := by
  have hs : ViewsAndLinksLaw (State.setComposing (.searching v) s) := composes_keeps h hr (.inr (.inl rfl))
  cases x
  · exact continueSearch_keeps hs hr _
  · exact hs

theorem placeRecord_keeps (h : ViewsAndLinksLaw s) (hr : (s.view v).state = .running) (r : RecordBody) (e : Entry) :
    ViewsAndLinksLaw (placeRecord v r e s) := by
  have hview : (endGrant s).view v = s.view v := State.view_congr (endGrant_views s) v
  have hput : ViewsAndLinksLaw ((endGrant s).setView v (((endGrant s).view v).passed (entryPos e))) :=
    setView_keeps (endGrant_quiet.keeps h) ⟨rfl, rfl, rfl⟩
  refine placeRow_keeps hput ?_ _
  rw [State.view_setView_same, hview]
  exact hr

/-- The re-check of a RUNNING view's candidate places its row, or the search begins again (R81). -/
theorem composerRecheck_keeps (h : ViewsAndLinksLaw s) (hr : (s.view v).state = .running) (x : Extent) (e : Entry)
    (r : RecordBody) : ViewsAndLinksLaw (composerRecheck x v e r s) := by
  have hend : ViewsAndLinksLaw (endGrant s) := endGrant_quiet.keeps h
  have hrun : ((endGrant s).view v).state = .running := by
    rw [State.view_congr (endGrant_views s)]
    exact hr
  unfold composerRecheck
  repeat' split
  · exact searchAgain_keeps hend hrun x
  · exact placeRecord_keeps h hr r _
  · exact searchAgain_keeps hend hrun x

theorem candidateGrant_keeps (h : ViewsAndLinksLaw s) (hr : (s.view v).state = .running) (x : Extent) (g : Grant)
    (e : Entry) : ViewsAndLinksLaw (candidateGrant x g v e s) := by
  have reads {a : ReadAnswer} (ha : readBody .compose e.slot e.key s = a) :
      ViewsAndLinksLaw a.after ∧ (a.after.view v).state = .running := by
    refine ⟨(readBody_quiet ha).keeps h, ?_⟩
    rw [State.view_congr (readBody_quiet ha).views]
    exact hr
  have again {t : State} (ht : ViewsAndLinksLaw t ∧ (t.view v).state = .running) :
      ViewsAndLinksLaw (searchAgain x v (endGrant t)) := by
    refine searchAgain_keeps (endGrant_quiet.keeps ht.1) ?_ x
    rw [State.view_congr (endGrant_views t)]
    exact ht.2
  unfold candidateGrant
  split
  · exact composerRecheck_keeps h hr _ _ _
  · exact h
  · split <;> rename_i ha
    · obtain ⟨hlaw, hrun⟩ := reads ha
      cases x
      · exact composerRecheck_keeps hlaw hrun _ _ _
      · exact (setProgress_quiet _ _).keeps hlaw
    all_goals exact again (reads ha)

/-- The grant of an abandoned composition ends with the composer free (R92). -/
theorem drainGrant_keeps (h : ViewsAndLinksLaw s) (g : Grant) : ViewsAndLinksLaw (drainGrant g s) := by
  have hfree (v : Fin 4) : ¬ ComposingFor v (drainGrant g s) := not_composingFor_free rfl v
  refine law_of_same h ?_ ?_ fun v hc => absurd hc (hfree v)
  · simp only [drainGrant]
    split <;> simp
  · simp only [drainGrant]
    split <;> simp

theorem composerGrantStep_keeps (h : ViewsAndLinksLaw s) (x : Extent) : ViewsAndLinksLaw (composerGrantStep x s) := by
  unfold composerGrantStep
  repeat' split
  any_goals exact h
  · next v e hw => exact candidateGrant_keeps h ((agree_of_law h v).running (.inr (.inr ⟨e, hw⟩))) _ _ _
  · exact drainGrant_keeps h _

/-! ## Timers and ADVANCE (R89, R90) -/

/-- A running refresh timer still runs after a second, at 0 if need be. -/
theorem fallTimer_keeps {n k : Nat} (h : ViewsAndLinksLaw s) (ht : (s.view v).refreshTimer = some n) :
    ViewsAndLinksLaw (s.setView v { s.view v with refreshTimer := some k }) := by
  have hv := agree_of_law h v
  refine law_of_one h v (fun u hu => ⟨State.view_setView_other _ _ hu, rfl, id⟩) ?_
  rw [State.view_setView_same]
  exact hv.congr rfl rfl (by simp [ht]) hv.link rfl rfl id

theorem refreshTick_keeps (h : ViewsAndLinksLaw s) (v : Fin 4) : ViewsAndLinksLaw (refreshTick v s) := by
  unfold refreshTick
  split
  · next hr =>
    split
    · exact h
    · next n hn =>
      split
      · exact startPass_keeps h (by simp [hr]) (by simp [hr])
      · exact fallTimer_keeps h hn
  · exact h

theorem refreshTimerTick_keeps (h : ViewsAndLinksLaw s) (v : Fin 4) : ViewsAndLinksLaw (refreshTimerTick v s) := by
  unfold refreshTimerTick
  split
  · split
    · exact h
    · next n hn => exact fallTimer_keeps h hn
  · exact h

theorem refreshExpiryStep_keeps (h : ViewsAndLinksLaw s) (v : Fin 4) : ViewsAndLinksLaw (refreshExpiryStep v s) := by
  unfold refreshExpiryStep
  split
  · next hr => exact startPass_keeps h (by simp [hr.1]) (by simp [hr.1])
  · exact h

/-- An ADVANCE request moves a view out of STEP_WAIT alone, to RUNNING (R90). -/
theorem advanceRequest_keeps (h : ViewsAndLinksLaw s) (v : Fin 4) : ViewsAndLinksLaw (advanceRequest v s) := by
  have hv := agree_of_law h v
  unfold advanceRequest
  split
  · next hw =>
    split
    · obtain ⟨_, hlost, hparked⟩ := hv.settled (by simp [hw]) (by simp [hw])
      have hrun : Settled { s.view v with state := .running } := by
        have hresume : (s.view v).resume = none := not_not.mp (mt hv.resume.mpr (by simp [hw]))
        constructor <;> simp [hresume, hv.noTimer (by simp [hw])]
      refine law_of_one h v (fun u hu => ⟨State.view_setView_other _ _ hu, rfl, id⟩) ?_
      rw [State.view_setView_same]
      exact hrun.agree hv.link hlost hparked fun _ => rfl
    · exact startPass_keeps h (by simp [hw]) (by simp [hw])
  · exact h

theorem holdTimersTick_keeps (h : ViewsAndLinksLaw s) : ViewsAndLinksLaw (holdTimersTick s) := by
  have ticked (l : Link) : l.ticked.state = l.state ∧ l.ticked.slot = l.slot ∧ l.ticked.parked = l.parked ∧
      l.ticked.takeTimer = l.takeTimer ∧ l.ticked.frame = l.frame := by
    unfold Link.ticked
    (repeat' split) <;> exact ⟨rfl, rfl, rfl, rfl, rfl⟩
  refine (law_iff _).mpr fun v => ?_
  obtain ⟨hst, hs, hp, ht, hf⟩ := ticked (s.link v)
  have hv := agree_of_law h v
  have hview : (holdTimersTick s).view v = s.view v := rfl
  have hcomp : ComposingFor v (holdTimersTick s) ↔ ComposingFor v s := Iff.rfl
  rw [holdTimersTick_link, hview]
  exact hv.congr rfl rfl Iff.rfl (linkLaw_congr hv.link hst hs hp ht hf) hst hp hcomp.mp

/-! ## The Board Links (R103 to R108) -/

/-- A link is put that differs in what the law does not read. -/
theorem advanceLink_keeps {l : Link} (h : ViewsAndLinksLaw s) (hst : l.state = (s.link v).state)
    (hs : l.slot = (s.link v).slot) (hp : l.parked = (s.link v).parked) (ht : l.takeTimer = (s.link v).takeTimer)
    (hf : l.frame = (s.link v).frame) : ViewsAndLinksLaw (s.setLink v l) :=
  setLink_keeps h (linkLaw_congr (agree_of_law h v).link hst hs hp ht hf) hst hp

theorem advanceRiseStep_keeps (h : ViewsAndLinksLaw s) (n : Fin 4) : ViewsAndLinksLaw (advanceRiseStep n s) := by
  unfold advanceRiseStep
  split
  · exact h
  · have hput : ViewsAndLinksLaw
        (s.setLink n { s.link n with advance := true, holdTimer := 0, heldAtTick := false }) :=
      advanceLink_keeps h rfl rfl rfl rfl rfl
    exact advanceRequest_keeps hput n

/-- A link that is neither LOST nor without a row changes its state to another such, its parked row as it was. -/
theorem liveLink_keeps {l : Link} (h : ViewsAndLinksLaw s) (hl : LinkLaw l) (hs : (s.link v).state ≠ .lost)
    (hst : l.state ≠ .lost) (hp : l.parked = (s.link v).parked) : ViewsAndLinksLaw (s.setLink v l) := by
  obtain ⟨_, hlost, hparked, hresume, htimer, hrun⟩ := agree_of_law h v
  refine law_of_one h v (fun u hu => ⟨rfl, State.link_setLink_other _ _ hu, id⟩) ?_
  rw [State.link_setLink_same]
  exact ⟨hl, by simpa [hst, hs] using hlost, hp ▸ hparked, hresume, htimer, hrun⟩

theorem frameEndStep_keeps (h : ViewsAndLinksLaw s) (n : Fin 4) : ViewsAndLinksLaw (frameEndStep n s) := by
  unfold frameEndStep
  split
  · next hst =>
    obtain ⟨hslot, hparked, _, _⟩ := (agree_of_law h n).link
    have hfull : (s.link n).slot ≠ none := by simp [hslot, hst]
    exact liveLink_keeps h (by simp [LinkLaw, hfull]) (by simp [hst]) (by simp) rfl
  · exact h

/-- TAKE (R104): the parked row goes out and its view takes its resume action's state, or the link is IDLE. -/
theorem takeStep_keeps (h : ViewsAndLinksLaw s) (n : Fin 4) : ViewsAndLinksLaw (takeStep n s) := by
  have hn := agree_of_law h n
  unfold takeStep
  split
  · next hst =>
    split
    · next row hrow =>
      have hpark : (s.view n).state = .parked := hn.parked.mpr (by simp [hrow])
      obtain ⟨r, hr⟩ := Option.ne_none_iff_exists'.mp (hn.resume.mp hpark)
      have hcomp : ¬ ComposingFor n s := fun hc => nomatch hpark.symm.trans (hn.running hc)
      rw [unparkView, State.view_setLink, hr]
      refine law_of_one h n (fun u hu => ⟨State.view_setView_other _ _ hu, State.link_setLink_other _ _ hu, id⟩) ?_
      rw [State.view_setView_same, State.link_setView, State.link_setLink_same]
      exact (settled_resumed (hn.noTimer (by simp [hpark])) r).agree (linkLaw_sends _ _) (by simp [Link.sends]) rfl
        (absurd · hcomp)
    · next hrow =>
      have hframe : (s.link n).frame = [] := frame_of_notSending hn.link (by simp [hst])
      have hidle : LinkLaw { s.link n with state := .idle, slot := none, takeTimer := none } :=
        linkLaw_empty (.inl rfl) rfl hrow rfl hframe
      exact liveLink_keeps h hidle (by simp [hst]) (by simp) rfl
  · exact h

/-- A loss leaves the link without rows and its view HALTED (R93, R106). -/
theorem linkLostStep_keeps (h : ViewsAndLinksLaw s) (n : Fin 4) : ViewsAndLinksLaw (linkLostStep n s) := by
  unfold linkLostStep
  split
  · next hst =>
    have hframe : (s.link n).frame = [] := frame_of_notSending (agree_of_law h n).link (by simp [hst])
    have hlost : LinkLaw (s.link n).lostNow := linkLaw_empty (.inr rfl) rfl rfl rfl hframe
    have hcomp := haltView_not_composing n (s.setLink n (s.link n).lostNow)
    have hall : ViewsAndLinksLaw (haltView n (s.setLink n (s.link n).lostNow)) := by
      refine law_of_one h n (fun u hu => ⟨haltView_other hu _, ?_, ?_⟩) ?_
      · rw [haltView_link, State.link_setLink_other _ _ hu]
      · exact (haltView_composing hu _).mp
      · rw [haltView_view, haltView_link, State.link_setLink_same]
        exact ⟨hlost, by simp [View.stopped, Link.lostNow], by simp [View.stopped, Link.lostNow],
          by simp [View.stopped], by simp [View.stopped], (absurd · hcomp)⟩
    exact (raiseEvent_quiet _ _ _ _ _ _).keeps hall
  · exact h

/-! ## The view commands and RESTART -/

theorem configureViewCommand_keeps (h : ViewsAndLinksLaw s) : ViewsAndLinksLaw (configureViewCommand s) := by
  have put (v : Fin 4) (c : ViewConfig) : ViewsAndLinksLaw (s.setView v { s.view v with config := c }) :=
    setView_keeps h ⟨rfl, rfl, rfl⟩
  unfold configureViewCommand
  repeat' split
  · exact (refuse_quiet _).keeps h
  · exact (refuse_quiet _).keeps h
  · next v _ _ c _ _ => exact (done_quiet _ _).keeps (put v c)
  · exact (refuse_quiet _).keeps h

theorem shiftViewCommand_keeps (h : ViewsAndLinksLaw s) : ViewsAndLinksLaw (shiftViewCommand s) := by
  have put (v : Fin 4) (c : ViewConfig) : ViewsAndLinksLaw (s.setView v { s.view v with config := c }) :=
    setView_keeps h ⟨rfl, rfl, rfl⟩
  simp only [shiftViewCommand]
  repeat' split
  · exact (refuse_quiet _).keeps h
  · exact (done_quiet _ _).keeps (put _ _)
  · exact (refuse_quiet _).keeps h

/-- START VIEW returns a LOST link to IDLE as its HALTED view leaves that state (R94). -/
theorem viewStarted_keeps (h : ViewsAndLinksLaw s) (v : Fin 4) : ViewsAndLinksLaw (viewStarted v s) := by
  have hv := agree_of_law h v
  refine law_of_one h v (fun u hu => ⟨viewStarted_other hu s, viewStarted_otherLink hu s, ?_⟩) ?_
  · exact (viewStarted_composing hu s).mp
  · rw [viewStarted_view, startPass_view, viewStarted_link]
    split
    · next hh =>
      have hlost := hv.lost.mp hh
      have htimer : (s.link v).takeTimer = none := takeTimer_of_notAwaiting hv.link (by simp [hlost])
      have hframe : (s.link v).frame = [] := frame_of_notSending hv.link (by simp [hlost])
      exact (settled_passStarted _ _ _).agree (linkLaw_empty (.inl rfl) rfl rfl htimer hframe) (by simp) rfl fun _ => rfl
    · next hh => exact (settled_passStarted _ _ _).agree (linkLaw_unpark hv.link) (mt hv.lost.mpr hh) rfl fun _ => rfl

theorem startViewCommand_keeps (h : ViewsAndLinksLaw s) : ViewsAndLinksLaw (startViewCommand s) := by
  cases hv : s.stagedView with
  | none =>
    simp only [startViewCommand, hv]
    exact (refuse_quiet _).keeps h
  | some v =>
    rw [startViewCommand_eq hv]
    exact (done_quiet _ _).keeps (viewStarted_keeps h v)

theorem viewStopped_keeps (h : ViewsAndLinksLaw s) (hh : (s.view v).state ≠ .halted) :
    ViewsAndLinksLaw (viewStopped v s) := by
  have hv := agree_of_law h v
  have hcomp := viewStopped_not_composing v s
  refine law_of_one h v (fun u hu => ⟨viewStopped_other hu s, viewStopped_otherLink hu s, ?_⟩) ?_
  · exact (viewStopped_composing hu s).mp
  · rw [viewStopped_view, viewStopped_link]
    have hidle : Settled ((s.view v).stopped .idle) := by constructor <;> simp [View.stopped]
    exact hidle.agree (linkLaw_unpark hv.link) (mt hv.lost.mpr hh) rfl (absurd · hcomp)

theorem stopViewCommand_keeps (h : ViewsAndLinksLaw s) : ViewsAndLinksLaw (stopViewCommand s) := by
  cases hv : s.stagedView with
  | none =>
    simp only [stopViewCommand, hv]
    exact (refuse_quiet _).keeps h
  | some v =>
    by_cases hh : (s.view v).state = .halted
    · rw [stopViewCommand_halted hv hh]
      exact (done_quiet _ _).keeps h
    · rw [stopViewCommand_eq hv hh]
      exact (done_quiet _ _).keeps (viewStopped_keeps h hh)

/-- After RESTART every view is IDLE and every link empty (R111, R157). -/
theorem restartCommand_lawful (s : State) : ViewsAndLinksLaw (restartCommand s) :=
  (law_iff _).mpr fun v => by
    have hcomp := mt (composingFor_congr (restartCommand_composer s) v).mp (abandonAll_not_composing v s)
    have hidle : Settled ((s.view v).stopped .idle) := by constructor <;> simp [View.stopped]
    rw [restartCommand_view, restartCommand_link]
    exact hidle.agree (linkLaw_empty (.inl rfl) rfl rfl rfl rfl) (by simp [Link.restarted]) rfl (absurd · hcomp)

theorem acceptCommand_keeps (n : Nat) (h : ViewsAndLinksLaw s) : ViewsAndLinksLaw (acceptCommand n s) := by
  unfold acceptCommand
  split
  · exact addCommand_quiet.keeps h
  · exact amendCommand_quiet.keeps h
  · exact retireCommand_quiet.keeps h
  · exact fetchCommand_quiet.keeps h
  · exact fetchRankCommand_quiet.keeps h
  · exact findNextCommand_quiet.keeps h
  · exact definePhraseCommand_quiet.keeps h
  · exact retirePhraseCommand_quiet.keeps h
  · exact readPhraseCommand_quiet.keeps h
  · exact configureViewCommand_keeps h
  · exact startViewCommand_keeps h
  · exact stopViewCommand_keeps h
  · exact shiftViewCommand_keeps h
  · exact readViewCommand_quiet.keeps h
  · exact setClockCommand_quiet.keeps h
  · exact newDayCommand_quiet.keeps h
  · exact (done_quiet _ _).keeps h
  · exact setStoreStateCommand_quiet.keeps h
  · exact (done_quiet _ _).keeps h
  · exact checkTestCommand_quiet.keeps h
  · exact setParameterCommand_quiet.keeps h
  · exact readParameterCommand_quiet.keeps h
  · exact (done_quiet _ _).keeps h
  · exact clearEventsCommand_quiet.keeps h
  · exact readCaptureCommand_quiet.keeps h
  · exact clearCaptureCommand_quiet.keeps h
  · exact setMasksCommand_quiet.keeps h
  · exact restartCommand_lawful s
  · exact (refuse_quiet _).keeps h

theorem fullReset_lawful (s : State) : ViewsAndLinksLaw (fullReset s) :=
  (law_iff _).mpr fun v => by
    obtain ⟨_, _, _, _, _, _, _, _, _, _, _, hviews, hcomposer, _, hlinks⟩ := fullReset_of s
    have hcomp : ¬ ComposingFor v (fullReset s) := not_composingFor_free (by rw [hcomposer]; rfl) v
    have hview : (fullReset s).view v = View.reset := by
      rw [State.view_congr hviews]
      simp [State.view, State.reset]
    have hidle : Settled View.reset := by constructor <;> simp [View.reset]
    rw [hview, hlinks v]
    exact hidle.agree (linkLaw_empty (.inl rfl) rfl rfl rfl rfl) (by simp [Link.reset]) rfl (absurd · hcomp)

/-! ## Every row -/

theorem row_keeps {f : State → State} (hf : PartRow f) (h : ViewsAndLinksLaw s) : ViewsAndLinksLaw (f s) := by
  cases hf
  case addGrant x => exact (addGrantStep_quiet x).keeps h
  case amendGrant x => exact (amendGrantStep_quiet x).keeps h
  case fetchGrant x => exact (fetchGrantStep_quiet x).keeps h
  case newDayVisit => exact newDayVisitStep_quiet.keeps h
  case rebaseGrant x => exact (rebaseGrantStep_quiet x).keeps h
  case storeStateGrant => exact storeStateGrantStep_quiet.keeps h
  case checkTestGrant => exact checkTestGrantStep_quiet.keeps h
  case retireRemove => exact retireRemoveStep_quiet.keeps h
  case clockTick => exact clockTick_quiet.keeps h
  case minuteAdvance => exact minuteAdvanceStep_quiet.keeps h
  case retirementStep => exact passStep_quiet.keeps h
  case copierStep x => exact (copierGrantStep_quiet x).keeps h
  case clearingStep => exact clearingStepWork_quiet.keeps h
  case sweepTimerExpiry => exact sweepExpiryStep_quiet.keeps h
  case sweepStep x => exact (sweepGrantStep_quiet x).keeps h
  case disturbance b n k => exact (arriveDisturbance_quiet b n k).keeps h
  case viewsTick =>
    exact refreshTick_keeps (refreshTick_keeps (refreshTick_keeps (refreshTick_keeps h 0) 1) 2) 3
  case viewTimersTick =>
    exact refreshTimerTick_keeps (refreshTimerTick_keeps (refreshTimerTick_keeps (refreshTimerTick_keeps h 0) 1) 2) 3
  case holdTimersTick => exact holdTimersTick_keeps h
  case refreshExpiry v => exact refreshExpiryStep_keeps h v
  case compositionStart x => exact compositionStep_keeps h x
  case composerGrant x => exact composerGrantStep_keeps h x
  case frameEnd n => exact frameEndStep_keeps h n
  case take n => exact takeStep_keeps h n
  case linkLost n => exact linkLostStep_keeps h n
  case advanceLine n level => exact advanceLink_keeps h rfl rfl rfl rfl rfl
  case advanceRise n => exact advanceRiseStep_keeps h n
  case advanceRelease n => exact advanceLink_keeps h rfl rfl rfl rfl rfl

/-- The law of the views and the links, in the form in which every step is known to keep it. -/
theorem viewsAndLinksLaw_keptByParts : KeptByParts ViewsAndLinksLaw where
  queue _ _ h := h
  port _ _ h := h
  events _ _ h := h
  inReset _ _ h := h
  reset s := fullReset_lawful s
  accept n _ _ h := acceptCommand_keeps n h
  lookup _ _ h := retireLookup_quiet.keeps h
  row _ _ hf h := row_keeps hf h

end

/-! ## The obligation -/

/-- Settles O55, by the changes a step is made of: the few that move a view, its link or the composer, each by its own
rule, and the frame of all others. -/
theorem stepKeepsViewsAndLinksLaw : Obligations.StepKeepsViewsAndLinksLaw :=
  fun _ _ hs he => viewsAndLinksLaw_keptByParts.step hs he

end Sys2Proof.Proofs.KeepsViewsAndLinksLaw

/-!
PROOFS. The view commands and the pass start: the filter, CONFIGURE VIEW, SHIFT VIEW and READ VIEW, the pass that a
refresh timer's expiry starts, START VIEW and STOP VIEW.
-/

namespace Sys2Proof.Proofs.ViewCommands

open Sys2Proof Sys2Proof.Machine Sys2Proof.Proofs.RecordCommands Sys2Proof.Proofs.ServiceDay Sys2Proof.Proofs.ViewRules

/-! ## The filter (R73) -/

/-- The range on the platforms 1 to 63, which wraps when its first lies above its last. -/
theorem inPlatformRange_iff {c : ViewConfig} {p : Nat} (h1 : 1 ≤ p) (h2 : p ≤ 63) : inPlatformRange c p = true ↔
    (c.platformFirst ≤ c.platformLast ∧ c.platformFirst ≤ p ∧ p ≤ c.platformLast) ∨
      (c.platformLast < c.platformFirst ∧ (c.platformFirst ≤ p ∨ p ≤ c.platformLast)) := by
  have hp : p ≤ Config.lastPhrase := h2
  unfold inPlatformRange
  split
  · simp only [Bool.and_eq_true, decide_eq_true_eq]
    omega
  · simp only [Bool.or_eq_true, Bool.and_eq_true, decide_eq_true_eq]
    omega

section

variable {s : State} {v : Fin 4}

/-! ## What the commands do, given their tests -/

theorem stagedView_of (hv : s.place 0 = v.val) : s.stagedView = some v := by
  rw [stagedView_some (by omega)]
  exact congrArg some (Fin.ext hv)

theorem modeOf_code (mode : ViewMode) : modeOf mode.code = some mode := by
  cases mode <;> rfl

/-- The configuration that CONFIGURE VIEW puts (R75, R173). -/
def configStaged (mode : ViewMode) (s : State) : ViewConfig :=
  { platformFirst := s.place 1, platformLast := s.place 2, includeUnassigned := s.placeBit 3 0,
    statuses := BitVec.ofNat 4 (s.place 4), offset := s.place 5, rowCount := s.place 6, wrap := s.placeBit 3 1,
    mode := mode, refresh := s.place 8, takeLimit := s.place 9 }

theorem stagedConfig_some {mode : ViewMode} (hm : s.place 7 = mode.code) (h : s.configInRange = true) :
    s.stagedConfig = some (configStaged mode s) := by
  simp only [State.stagedConfig, hm, modeOf_code, h, if_true]
  rfl

theorem configureViewCommand_ok {c : ViewConfig} (hv : s.stagedView = some v) (hc : s.stagedConfig = some c)
    (h : (s.view v).state = .idle ∨ (s.view v).state = .halted) :
    configureViewCommand s = done none false (s.setView v { s.view v with config := c }) := by
  simp only [configureViewCommand, hv, hc, if_pos h]

theorem configureViewCommand_busy {c : ViewConfig} (hv : s.stagedView = some v) (hc : s.stagedConfig = some c)
    (h : ¬ ((s.view v).state = .idle ∨ (s.view v).state = .halted)) :
    configureViewCommand s = refuse .viewBusy s := by
  simp only [configureViewCommand, hv, hc, if_neg h]

theorem shiftViewCommand_ok (hv : s.stagedView = some v)
    (h : s.place 16 ≤ 1 ∧ 1 ≤ s.place 17 ∧ s.place 17 ≤ 16) :
    let o := shiftedOffset (s.view v).config.offset (s.place 16) (s.place 17)
    shiftViewCommand s = done (some (offsetBytes o)) false
      (s.setView v { s.view v with config := { (s.view v).config with offset := o } }) := by
  simp only [shiftViewCommand, hv, if_pos h]

theorem readViewCommand_ok (hv : s.stagedView = some v) :
    readViewCommand s = done (some (viewBytes v.val (s.view v) (s.link v))) false s := by
  simp only [readViewCommand, hv]

/-- The offset after a shift is one byte. -/
theorem shiftedOffset_lt (offset direction n : Nat) : shiftedOffset offset direction n < 256 := by
  unfold shiftedOffset
  split <;> omega

/-- A shift back is undone by the same step forward. -/
theorem shiftedOffset_back {offset n : Nat} (ho : offset < 256) (hn : n ≤ 16) :
    (shiftedOffset offset 1 n + n) % 256 = offset := by
  simp only [shiftedOffset, one_ne_zero, if_false]
  omega

/-- A command that puts one view and completes, at its strobe. -/
theorem done_setView (hc : s.cmd = none) (v : Fin 4) (w : View) (out : Option (List Byte)) :
    done out false ((struck s).setView v w) = (s.setView v w).onlyPort (portAfter s.port .ok out false) :=
  done_portTaken s out false hc (fun t => t.setView v w) (fun _ => rfl) rfl

/-! ## START VIEW and STOP VIEW (R94, R95) -/

/-- What completes a command at its strobe leaves in the port and the command in flight. -/
theorem done_port {t : State} (ht : t.port = portTaken s.port) (out : Option (List Byte)) :
    (done out false t).port = portAfter s.port .ok out false ∧ (done out false t).cmd = none := by
  simp [done, complete, ht, portAfter, portTaken]

theorem done_view (u : Fin 4) (out : Option (List Byte)) (t : State) : (done out false t).view u = t.view u :=
  State.view_congr (done_views _ _ _) u

theorem done_link (u : Fin 4) (out : Option (List Byte)) (t : State) : (done out false t).link u = t.link u :=
  State.link_congr (done_links _ _ _) u

/-- A composition is in flight after the completion for the same views as before it. -/
theorem composingFor_done (u : Fin 4) (out : Option (List Byte)) (t : State) :
    ComposingFor u (done out false t) ↔ ComposingFor u t := composingFor_congr (done_composer _ _ _) u

theorem abandonedFor_done {out : Option (List Byte)} {t : State} (h : AbandonedFor v s t) :
    AbandonedFor v s (done out false t) :=
  abandonedFor_congr ⟨rfl, rfl⟩ ⟨done_composer _ _ _, done_arb _ _ _⟩ h

/-- A pass starts in the same way right before and right after the strobe. -/
theorem startPass_view_struck (v : Fin 4) (s : State) : (startPass v (struck s)).view v = (startPass v s).view v := by
  rw [startPass_view, startPass_view]
  rfl

end

/-! ## The obligations -/

/-- Settles O20: an entry with a platform passes by the range, one without by the configuration's flag. -/
theorem filterFollowsPlatformAndStatus : Obligations.FilterFollowsPlatformAndStatus := by
  intro c e hp
  rw [passesFilter, Bool.and_eq_true]
  refine and_congr_left fun _ => ?_
  cases h : e.platform with
  | none => simp [platformPasses]
  | some p =>
    obtain ⟨h1, h2⟩ := hp p h
    simp [platformPasses, inPlatformRange_iff h1 h2]

/-- Settles O21, command by command. -/
theorem viewConfigurationCommands : Obligations.ViewConfigurationCommands := by
  refine ⟨?configure, fun s v hv => ⟨?shift, ?read⟩⟩
  case configure =>
    intro s v mode h hv h1 h1' h2 h2' h4 h6 h6' h7 h8 h8' h9
    have hview : (struck s).stagedView = some v := stagedView_of (s := struck s) hv
    have hconfig : (struck s).stagedConfig = some (configStaged mode s) :=
      stagedConfig_some (s := struck s) h7
        ((configInRange_iff _).mpr ⟨⟨h1, h1'⟩, ⟨h2, h2'⟩, h4, h6, h6', h8, h8', h9⟩)
    refine ⟨fun hs => ?_, fun hs => ends_of_refuse h (configureViewCommand_busy hview hconfig hs) (by decide)⟩
    have hcommand := configureViewCommand_ok hview hconfig hs
    rw [exec_accepted h (by decide)]
    exact congrArg Host.Outcome.next (hcommand.trans (done_setView h.2 v _ none))
  case shift =>
    intro h h16 h17 h17'
    have hview : (struck s).stagedView = some v := stagedView_of (s := struck s) hv
    refine ⟨shiftedOffset (s.view v).config.offset (s.place 16) (s.place 17), shiftedOffset_lt _ _ _, ?_, ?_, ?_⟩
    · intro hf
      rw [hf]
      rfl
    · intro hb ho
      rw [hb]
      exact shiftedOffset_back ho h17'
    · have hcommand := shiftViewCommand_ok hview ⟨h16, h17, h17'⟩
      rw [exec_accepted h (by decide)]
      exact congrArg Host.Outcome.next (hcommand.trans (done_setView h.2 v _ _))
  case read =>
    intro h
    have hview : (struck s).stagedView = some v := stagedView_of (s := struck s) hv
    rw [exec_accepted h (by decide)]
    exact congrArg Host.Outcome.next
      ((readViewCommand_ok hview).trans (complete_portTaken s .ok _ false h.2))

/-- Settles O22: the pass start is one view put, and an expiry is a pass start. -/
theorem passStartSetsThePassState : Obligations.PassStartSetsThePassState := by
  refine ⟨fun s v => ?start, fun s v k hr hrest ht hk => ?expiry⟩
  case start =>
    have hphrase : (s.params.noticePhrase != 0) = decide (s.params.noticePhrase ≠ 0) := by
      rw [bne, decide_not]
      rfl
    intro w n
    rw [startPass, rowsStale_eq, hphrase]
    rfl
  case expiry =>
    have hdue : (s.view v).refreshDue = true := by simp [View.refreshDue, ht, hk]
    have hstep : refreshExpiryStep v s = startPass v s := if_pos ⟨hrest, hdue⟩
    exact (whenAwake_awake _ hr).trans (congrArg Host.Outcome.next hstep)

/-- Settles O23: what START VIEW and STOP VIEW do to the view and its link, and the composition that they abandon. -/
theorem startAndStopViewCommands : Obligations.StartAndStopViewCommands := by
  refine ⟨fun s v h hv => ?start, fun s v h hv => ⟨?halted, ?stop⟩, fun s hn => ⟨?startRange, ?stopRange⟩⟩
  case startRange => exact fun h => views_end_fieldRange _ _ (by decide) rfl h hn
  case stopRange => exact fun h => views_end_fieldRange _ _ (by decide) rfl h hn
  case start =>
    have hview : (struck s).stagedView = some v := stagedView_of (s := struck s) hv
    have hport : (viewStarted v (struck s)).port = portTaken s.port := by simp [viewStarted]
    obtain ⟨hp, hc⟩ := done_port hport
      (some (passNumberBytes ((viewStarted v (struck s)).view v).passNumber))
    refine ⟨_, (exec_accepted h (by decide)).trans (congrArg Host.Outcome.next (startViewCommand_eq hview)), ?_⟩
    have hab : AbandonedFor v s (viewStarted v (struck s)) :=
      abandonedFor_congr ⟨rfl, rfl⟩ ⟨rfl, rfl⟩ (viewStarted_abandoned v (struck s))
    refine ⟨(done_view v _ _).trans ((viewStarted_view v _).trans (startPass_view_struck v s)),
      fun u hu => (done_view u _ _).trans (viewStarted_other hu (struck s)),
      (done_link v _ _).trans (viewStarted_link v (struck s)),
      fun u hu => (done_link u _ _).trans (viewStarted_otherLink hu (struck s)),
      mt (composingFor_done v _ _).mp (viewStarted_not_composing v _),
      fun u hu => (composingFor_done u _ _).trans (viewStarted_composing hu (struck s)), abandonedFor_done hab, ?_,
      hc, ?_⟩
    · rw [done_view]
      exact hp
    simp [viewStarted]
  case halted =>
    intro hh
    have hview : (struck s).stagedView = some v := stagedView_of (s := struck s) hv
    rw [exec_accepted h (by decide)]
    exact congrArg Host.Outcome.next
      ((stopViewCommand_halted hview hh).trans (complete_portTaken s .ok none false h.2))
  case stop =>
    intro hh
    have hview : (struck s).stagedView = some v := stagedView_of (s := struck s) hv
    have hport : (viewStopped v (struck s)).port = portTaken s.port := by simp [viewStopped]
    obtain ⟨hp, hc⟩ := done_port hport none
    refine ⟨_, (exec_accepted h (by decide)).trans (congrArg Host.Outcome.next (stopViewCommand_eq hview hh)), ?_⟩
    have hab : AbandonedFor v s (viewStopped v (struck s)) :=
      abandonedFor_congr ⟨rfl, rfl⟩ ⟨rfl, rfl⟩ (viewStopped_abandoned v (struck s))
    refine ⟨(done_view v _ _).trans (viewStopped_view v (struck s)),
      fun u hu => (done_view u _ _).trans (viewStopped_other hu (struck s)),
      (done_link v _ _).trans (viewStopped_link v (struck s)),
      fun u hu => (done_link u _ _).trans (viewStopped_otherLink hu (struck s)),
      mt (composingFor_done v _ _).mp (viewStopped_not_composing v _),
      fun u hu => (composingFor_done u _ _).trans (viewStopped_composing hu (struck s)), abandonedFor_done hab, hp, hc,
      ?_⟩
    simp [viewStopped]

end Sys2Proof.Proofs.ViewCommands

/-!
PROOFS. The Board Links: the loss of a link at its take timer's expiry, and the edges of ADVANCE.
-/

namespace Sys2Proof.Proofs.BoardLinks

open Sys2Proof Sys2Proof.Machine Sys2Proof.Proofs.ServiceDay Sys2Proof.Proofs.ViewRules

section

variable {s : State} {n u : Fin 4}

/-! ## A loss (R93, R106) -/

/-- The state at a link's loss, before LINK_LOST is raised. -/
def linkGone (n : Fin 4) (s : State) : State := haltView n (s.setLink n (s.link n).lostNow)

theorem exec_linkLost (hr : s.inReset = false) (h : (s.link n).state = .awaitTake) :
    exec (.linkLost n) s = .next (raiseEvent .linkLost none none none (some n) .link (linkGone n s)) := by
  have hstep : linkLostStep n s = raiseEvent .linkLost none none none (some n) .link (linkGone n s) := if_pos h
  exact (whenAwake_awake _ hr).trans (congrArg Host.Outcome.next hstep)

theorem linkGone_view (n : Fin 4) (s : State) : (linkGone n s).view n = (s.view n).stopped .halted := haltView_view n _

theorem linkGone_link (n : Fin 4) (s : State) : (linkGone n s).link n = (s.link n).lostNow :=
  (haltView_link n n _).trans (State.link_setLink_same _ _ _)

theorem linkGone_other (hu : u ≠ n) (s : State) : (linkGone n s).link u = s.link u ∧ (linkGone n s).view u = s.view u :=
  ⟨(haltView_link n u _).trans (State.link_setLink_other _ _ hu), haltView_other hu _⟩

theorem linkGone_composing (hu : u ≠ n) (s : State) : ComposingFor u (linkGone n s) ↔ ComposingFor u s :=
  haltView_composing hu _

theorem linkGone_abandoned (n : Fin 4) (s : State) : AbandonedFor n s (linkGone n s) :=
  abandonedFor_congr ⟨rfl, rfl⟩ ⟨rfl, rfl⟩ (haltView_abandoned n (s.setLink n (s.link n).lostNow))

/-! ## The edges of ADVANCE (R90, R108) -/

theorem setLink_setLink (s : State) (v : Fin 4) (l l' : Link) : (s.setLink v l).setLink v l' = s.setLink v l' := by
  simp [State.setLink, State.setLinks]

/-- A change of a line from outside is taken while RESET_N is high (R161). -/
theorem lineChange_awake (line event : State → State) (h : s.inReset = false) :
    lineChange line event s = .next (event (line s)) := by
  simp [lineChange, h]

/-- The state after a rising edge of ADVANCE, before it is handed to the view. -/
def advanceRisen (n : Fin 4) (s : State) : State :=
  s.setLink n { s.link n with line := true, advance := true, holdTimer := 0, heldAtTick := false }

theorem exec_advanceRise (hr : s.inReset = false) (h : (s.link n).advance = false) :
    exec (.advanceRise n) s = .next (advanceRequest n (advanceRisen n s)) := by
  have hline : ((setAdvanceLine n true s).link n).advance = false := by
    rw [setAdvanceLine, State.link_setLink_same]
    exact h
  have hstep : advanceRiseStep n (setAdvanceLine n true s) = advanceRequest n (advanceRisen n s) := by
    rw [advanceRiseStep, if_neg (by simp [hline]), setAdvanceLine, setLink_setLink, State.link_setLink_same]
    rfl
  exact (lineChange_awake _ _ hr).trans (congrArg Host.Outcome.next hstep)

theorem exec_advanceRelease (hr : s.inReset = false) : exec (.advanceRelease n) s =
    .next (s.setLink n { s.link n with line := false, advance := false, holdTimer := 0, heldAtTick := false }) := by
  have hstep : advanceReleaseStep n (setAdvanceLine n false s) =
      s.setLink n { s.link n with line := false, advance := false, holdTimer := 0, heldAtTick := false } := by
    rw [advanceReleaseStep, setAdvanceLine, setLink_setLink, State.link_setLink_same]
  exact (lineChange_awake _ _ hr).trans (congrArg Host.Outcome.next hstep)

theorem advanceRequest_ignored (h : (s.view n).state ≠ .stepWait) : advanceRequest n s = s := if_neg h

theorem advanceRequest_runs (h : (s.view n).state = .stepWait) (hi : (s.view n).rowIndex < (s.view n).config.rowCount) :
    advanceRequest n s = s.setView n { s.view n with state := .running } := by
  rw [advanceRequest, if_pos h, if_pos hi]

theorem advanceRequest_starts (h : (s.view n).state = .stepWait)
    (hi : (s.view n).rowIndex = (s.view n).config.rowCount) : advanceRequest n s = startPass n s := by
  rw [advanceRequest, if_pos h, if_neg (by omega)]

end

/-! ## The obligations -/

/-- Settles O49: the link's loss, its view's halt and the event, each by its rule. -/
theorem linkLossHaltsItsView : Obligations.LinkLossHaltsItsView := by
  intro s n hr h
  refine ⟨_, exec_linkLost hr h, linkGone_link n s, linkGone_view n s, haltView_not_composing n _,
    fun u hu => ⟨(linkGone_other hu s).1, (linkGone_other hu s).2, linkGone_composing hu s⟩, ?sticky, ?error, ?frame⟩
  case sticky =>
    have hevents : (linkGone n s).events = s.events := by simp [linkGone, haltView]
    rw [← hevents]
    rfl
  case error =>
    intro hnone
    rw [raiseEvent_firstError]
    simp [linkGone, haltView, EventKind.isError, hnone, offered, State.captureMinute]
  case frame =>
    have hab : AbandonedFor n s (raiseEvent .linkLost none none none (some n) .link (linkGone n s)) :=
      abandonedFor_congr ⟨rfl, rfl⟩ ⟨rfl, rfl⟩ (linkGone_abandoned n s)
    simp only [hab, true_and]
    simp [linkGone, haltView]

/-- Settles O50: the edge is taken at the link and then handed to the view. -/
theorem advanceEdgesReachTheView : Obligations.AdvanceEdgesReachTheView := by
  intro s n hr risen
  have rises {t : State} (ha : (s.link n).advance = false) (ht : advanceRequest n (advanceRisen n s) = t) :
      exec (.advanceRise n) s = .next t := (exec_advanceRise hr ha).trans (congrArg Host.Outcome.next ht)
  exact ⟨fun ha hw => rises ha (advanceRequest_ignored (s := advanceRisen n s) hw),
    fun ha hw hi => rises ha (advanceRequest_runs (s := advanceRisen n s) hw hi),
    fun ha hw hi => rises ha (advanceRequest_starts (s := advanceRisen n s) hw hi), exec_advanceRelease hr⟩

end Sys2Proof.Proofs.BoardLinks

/-!
PROOFS. The composer: the taking of a view, the claims of a search, its candidate's grant, and the placement of a row.
-/

namespace Sys2Proof.Proofs.Composition

open Sys2Proof Sys2Proof.Machine Sys2Proof.Proofs.RecordCommands Sys2Proof.Proofs.ServiceDay Sys2Proof.Proofs.ViewRules

section

variable {s : State} {v u : Fin 4} {x : Extent}

/-! ## Placement (R87) -/

theorem placeRow_view_empty {content : RowContent} (h : (s.link v).slot = none) :
    (placeRow v content s).view v = (rowDone (s.view v)).resumed (rowDone (s.view v)).afterRow := by
  rw [placeRow_empty h, State.view_setView_same]

theorem placeRow_link_empty {content : RowContent} (h : (s.link v).slot = none) :
    (placeRow v content s).link v = (s.link v).sends (rowOf v content s) := by
  rw [placeRow_empty h, State.link_setView, State.link_setLink_same]

theorem placeRow_view_full {content : RowContent} (h : (s.link v).slot ≠ none) : (placeRow v content s).view v =
    { rowDone (s.view v) with state := .parked, resume := some (rowDone (s.view v)).afterRow } := by
  rw [placeRow_full h, State.view_setView_same]

theorem placeRow_link_full {content : RowContent} (h : (s.link v).slot ≠ none) :
    (placeRow v content s).link v = { s.link v with parked := some (rowOf v content s) } := by
  rw [placeRow_full h, State.link_setView, State.link_setLink_same]

/-- A placement reaches the views, the links and the composer alone. -/
theorem placeRow_frame (v : Fin 4) (content : RowContent) (s : State) : placeRow v content s =
    { s with views := (placeRow v content s).views, links := (placeRow v content s).links,
             composer := { s.composer with work := .free } } := by
  apply State.ext <;> simp [placeRow_composer]

section

variable {w : View}

theorem afterRow_onePass (hm : w.config.mode = .onePass) (hc : w.rowIndex ≠ w.config.rowCount) :
    w.afterRow = .goOn := by simp [View.afterRow, hm, hc]

theorem afterRow_onePass_complete (hm : w.config.mode = .onePass) (hc : w.rowIndex = w.config.rowCount) :
    w.afterRow = .finish := by simp [View.afterRow, hm, hc]

theorem afterRow_cyclic (hm : w.config.mode = .cyclic) (hc : w.rowIndex ≠ w.config.rowCount) :
    w.afterRow = .goOn := by simp [View.afterRow, hm, hc]

theorem afterRow_cyclic_complete (hm : w.config.mode = .cyclic) (hc : w.rowIndex = w.config.rowCount) :
    w.afterRow = .rest := by simp [View.afterRow, hm, hc]

theorem afterRow_stepped (hm : w.config.mode = .stepped) : w.afterRow = .step := by simp [View.afterRow, hm]

end

/-! ## The view that is taken next (R79) -/

theorem find_first {g : Fin 4 → Bool} {d : Fin 4} (hd : g d = true) (before : ∀ k < d, g k = false) :
    [(0 : Fin 4), 1, 2, 3].find? g = some d := by
  match d with
  | 0 => simp [hd]
  | 1 => simp [hd, before 0 (by decide)]
  | 2 => simp [hd, before 0 (by decide), before 1 (by decide)]
  | 3 => simp [hd, before 0 (by decide), before 1 (by decide), before 2 (by decide)]

/-- A search of the four views in turn, from the one after `last`, finds the first that passes. -/
theorem find_inTurn {f : Fin 4 → Bool} {last : Fin 4} (hv : f v = true)
    (before : ∀ u : Fin 4, (u - last - 1).val < (v - last - 1).val → f u = false) :
    [last + 1, last + 2, last + 3, last].find? f = some v := by
  have turn (k : Fin 4) : last + 1 + k - last - 1 = k := by abel
  have back : last + 1 + (v - last - 1) = v := by abel
  have inTurn : [last + 1, last + 2, last + 3, last] = [(0 : Fin 4), 1, 2, 3].map (last + 1 + ·) := by
    simp [add_assoc]
  have first := find_first (g := f ∘ (last + 1 + ·)) (d := v - last - 1) (by simp [back, hv])
    fun k hk => before (last + 1 + k) (by rwa [turn])
  rw [inTurn, List.find?_map, first, Option.map_some, back]

theorem viewReady_iff (s : State) (u : Fin 4) : s.viewReady u = true ↔
    ((s.view u).state = .running ∧ (s.link u).parked = none) ∧ s.clock.hold = false := by
  simp [State.viewReady]

theorem nextReady_of (h : NextToCompose v s) : nextReady s = some v := by
  obtain ⟨_, hhold, hrun, hparked, hbefore⟩ := h
  refine find_inTurn ((viewReady_iff s v).mpr ⟨⟨hrun, hparked⟩, hhold⟩) fun u hu => ?_
  rw [Bool.eq_false_iff, ne_eq, viewReady_iff]
  exact fun hready => hbefore u hu hready.1

/-! ## The row COMPOSITION_START (R79, R80) -/

theorem exec_compositionStart (hr : s.inReset = false) (x : Extent) :
    exec (.compositionStart x) s = .next (compositionStep x s) := whenAwake_awake _ hr

theorem compositionStep_taken (h : s.composer.work = .taken v) (x : Extent) :
    compositionStep x s = composeRow x v s := by
  simp only [compositionStep, h]

theorem compositionStep_searching (h : s.composer.work = .searching v) (x : Extent) :
    compositionStep x s = continueSearch x v s := by
  simp only [compositionStep, h]

/-- The whole step on the free composer takes the next ready view and composes its row. -/
theorem compositionStep_next (h : NextToCompose v s) : compositionStep .whole s = composeRow .whole v (takeView v s) := by
  simp only [compositionStep, h.1, startComposition, nextReady_of h]

theorem setComposer_self {c : Composer} (h : s.composer = c) : s.setComposer c = s := by
  subst h
  rfl

/-- A view is composed for: it has been taken, or the step takes it. -/
def Composes (x : Extent) (v : Fin 4) (s : State) : Prop :=
  s.composer.work = .taken v ∨ (x = .whole ∧ NextToCompose v s)

/-- The view last served once the view is taken. -/
def servedBy (v : Fin 4) (s : State) : Fin 4 := if s.composer.work = .free then v else s.composer.lastServed

/-- The state in which the view has been taken. -/
def takenBy (v : Fin 4) (s : State) : State := s.setComposer { work := .taken v, lastServed := servedBy v s }

theorem takenBy_self (h : s.composer.work = .taken v) : takenBy v s = s := by
  have hserved : s.composer = { work := .taken v, lastServed := servedBy v s } := by
    rw [servedBy, if_neg (by simp [h]), ← h]
  exact setComposer_self hserved

theorem compositionStep_composes (h : Composes x v s) : compositionStep x s = composeRow x v (takenBy v s) := by
  rcases h with htaken | ⟨rfl, hnext⟩
  · rw [takenBy_self htaken, compositionStep_taken htaken]
  · rw [compositionStep_next hnext, takenBy, servedBy, if_pos hnext.1]
    rfl

/-- The state after the read of a NOTICE row (R84). -/
def noticeRead (v : Fin 4) (s : State) : State := s.setView v { s.view v with noticeDue := false }

theorem noticeRead_noticeDue (v : Fin 4) (s : State) : ((noticeRead v s).view v).noticeDue = false := by
  rw [noticeRead, State.view_setView_same]

/-- Whether a view's notice is due is not asked where a view is taken. -/
theorem Composes.afterRead (h : Composes x v s) : Composes x v (noticeRead v s) := by
  refine h.imp id fun ⟨hx, hfree, hhold, hrun, hparked, hbefore⟩ => ⟨hx, hfree, hhold, ?_, hparked, fun u hu => ?_⟩
  · rw [noticeRead, State.view_setView_same]
    exact hrun
  · by_cases huv : u = v
    · rw [huv] at hu
      exact absurd hu (lt_irrefl _)
    · rw [noticeRead, State.view_setView_other _ _ huv]
      exact hbefore u hu

/-! ## What is composed (R80, R84, R85) -/

theorem composeRow_noNotice (h : (s.view v).noticeDue = false) (x : Extent) :
    composeRow x v s = composeOther x v s := by
  simp [composeRow, h]

theorem composeOther_ended (h : (s.view v).searchEnded = true) (x : Extent) :
    composeOther x v s = placeRow v .blank s := if_pos h

theorem composeRow_notice (h : (s.view v).noticeDue = true) (hr : s.noticeReadable = true) (x : Extent) :
    composeRow x v s = placeRow v (.notice (s.phrase s.params.noticePhrase).text) (noticeRead v s) := by
  simp [composeRow, noticeRead, h, hr]

theorem composeRow_noticeGone (h : (s.view v).noticeDue = true) (hr : s.noticeReadable = false) :
    composeRow .whole v s = composeOther .whole v (noticeRead v s) ∧ composeRow .firstPart v s = noticeRead v s := by
  simp [composeRow, noticeRead, h, hr]

theorem noticeReadable_iff (s : State) :
    s.noticeReadable = true ↔ s.params.staleAction = 1 ∧ s.params.noticePhrase ≠ 0 := by
  simp [State.noticeReadable]

/-! ## The claims of a search (R80) -/

theorem posBefore_iff (p q : Position) :
    posBefore p q = true ↔ p.time < q.time ∨ (p.time = q.time ∧ p.key < q.key) := by
  simp [posBefore]

/-- A position lies at or after the wrap limit of a pass that has wrapped. -/
theorem atWrapLimit_iff (e : Entry) (w : Wrapped) : atWrapLimit (entryPos e) w = true ↔
    ∃ limit, w = .yes (some limit) ∧
      ¬ (e.effective < limit.time ∨ (e.effective = limit.time ∧ e.key < limit.key)) := by
  match w with
  | .no => simp [atWrapLimit]
  | .yes none => simp [atWrapLimit]
  | .yes (some limit) =>
    have hlimit : atWrapLimit (entryPos e) (.yes (some limit)) = true ↔ ¬ posBefore (entryPos e) limit = true := by
      simp [atWrapLimit]
    rw [hlimit, posBefore_iff]
    exact ⟨fun h => ⟨limit, rfl, h⟩, fun ⟨_, hl, h⟩ => by cases hl; exact h⟩

section

variable {w : View} {e : Entry}

theorem searchClaim_beyond (hf : nextAfter w.cursor (passesFilter w.config) s = some e)
    (hb : atWrapLimit (entryPos e) w.wrapped = true) : searchClaim w s = .nothing { w with searchEnded := true } := by
  simp [searchClaim, hf, hb]

theorem searchClaim_skips (hf : nextAfter w.cursor (passesFilter w.config) s = some e)
    (hb : ¬ atWrapLimit (entryPos e) w.wrapped = true) (hk : 1 ≤ w.skip) :
    searchClaim w s = .again { w with skip := w.skip - 1, cursor := entryPos e } := by
  simp only [searchClaim, hf, if_neg hb, if_pos hk]

theorem searchClaim_finds (hf : nextAfter w.cursor (passesFilter w.config) s = some e)
    (hb : ¬ atWrapLimit (entryPos e) w.wrapped = true) (hk : w.skip = 0) : searchClaim w s = .candidate w e := by
  have hz : ¬ 1 ≤ w.skip := by omega
  simp only [searchClaim, hf, if_neg hb, if_neg hz]

theorem searchClaim_wraps (hf : nextAfter w.cursor (passesFilter w.config) s = none) (hw : w.config.wrap = true)
    (hn : w.wrapped = .no) :
    searchClaim w s = .again { w with skip := 0, wrapped := .yes w.anchor, cursor := frontPos } := by
  simp [searchClaim, hf, hw, hn, notWrapped]

theorem searchClaim_ends (hf : nextAfter w.cursor (passesFilter w.config) s = none)
    (hn : w.config.wrap = false ∨ w.wrapped ≠ .no) :
    searchClaim w s = .nothing { w with skip := 0, searchEnded := true } := by
  have hno : ¬ (w.config.wrap && notWrapped w.wrapped) = true := by
    cases hw : w.wrapped <;> simp_all [notWrapped]
  simp only [searchClaim, hf, if_neg hno]

end

/-- The first part of a search is one claim (log 4). -/
theorem continueSearch_firstPart (v : Fin 4) (s : State) :
    continueSearch .firstPart v s = finishSearch v s (searchClaim (s.view v) s) := by
  have hone : searchWithin 1 (s.view v) s = searchClaim (s.view v) s := by
    rw [searchWithin_succ]
    cases searchClaim (s.view v) s <;> rfl
  rw [continueSearch_eq, ← hone]
  rfl

theorem exec_searchClaim (hr : s.inReset = false) (hw : s.composer.work = .searching v) {a : SearchAnswer}
    (ha : searchClaim (s.view v) s = a) : exec (.compositionStart .firstPart) s = .next (finishSearch v s a) := by
  rw [exec_compositionStart hr, compositionStep_searching hw, continueSearch_firstPart, ha]

theorem finishSearch_again (hw : s.composer.work = .searching v) (w : View) :
    finishSearch v s (.again w) = s.setView v w := by
  have hc : (s.setView v w).composer = { s.composer with work := .searching v } := by rw [← hw]; rfl
  exact setComposer_self hc

theorem setView_self (v : Fin 4) (s : State) : s.setView v (s.view v) = s := by
  simp [State.setView, State.view, State.setViews]

/-- The candidate's slot is asked for (R118). -/
theorem finishSearch_candidate (v : Fin 4) (s : State) (e : Entry) :
    finishSearch v s (.candidate (s.view v) e) = { s with
      composer := { s.composer with work := .candidate v e }
      arb := arbAfterRequest s.arb { holder := .composer, slot := some e.slot, key := e.key, progress := .begun } } := by
  rw [finishSearch, setView_self, requestPort_eq (by decide)]
  rfl

/-! ## The candidate's grant (R81, R82) -/

section

variable {e : Entry} {r : RecordBody}

/-- The composer's grant on its candidate, its first access due. -/
def candidateBegun (e : Entry) : Grant := { holder := .composer, slot := some e.slot, key := e.key, progress := .begun }

theorem exec_composerGrant (hg : GrantBegun .composer (some e.slot) e.key s) (hc : s.composer.work = .candidate v e)
    (x : Extent) : exec (.composerGrant x) s = .next (candidateGrant x (candidateBegun e) v e s) := by
  obtain ⟨hr, _, hh⟩ := hg
  have hgrant : s.grantOf .composer = some (candidateBegun e) := by
    simp [State.grantOf, hh, candidateBegun]
  have hstep : composerGrantStep x s = candidateGrant x (candidateBegun e) v e s := by
    simp only [composerGrantStep, hgrant, hc]
  exact (whenAwake_awake _ hr).trans (congrArg Host.Outcome.next hstep)

theorem candidateGrant_body {t : State} (h : readBody .compose e.slot e.key s = .body r t) :
    candidateGrant .whole (candidateBegun e) v e s = composerRecheck .whole v e r t := by
  simp only [candidateGrant, candidateBegun, h]

/-- A read without a body ends the grant, and the search begins again (R82). -/
theorem candidateGrant_noBody {a : ReadAnswer} (h : readBody .compose e.slot e.key s = a) (hn : ∀ r t, a ≠ .body r t)
    (x : Extent) : candidateGrant x (candidateBegun e) v e s = searchAgain x v (endGrant a.after) := by
  simp only [candidateGrant, candidateBegun, h]
  cases a with
  | body r t => exact absurd rfl (hn r t)
  | withdrawn t => rfl
  | gone t => rfl
  | failed t => rfl
  | notServing t => rfl

theorem sameEntry_iff (found now : Entry) : sameEntry found now = true ↔
    now.slot = found.slot ∧ now.effective = found.effective ∧ now.platform = found.platform ∧
      now.status = found.status := by
  simp [sameEntry, and_assoc]

theorem composerRecheck_same (h : lookupKey e.key s = some e) (x : Extent) (v : Fin 4) (r : RecordBody) :
    composerRecheck x v e r s = placeRecord v r e s := by
  have hsame : sameEntry e e = true := (sameEntry_iff e e).mpr ⟨rfl, rfl, rfl, rfl⟩
  simp only [composerRecheck, h, hsame, if_true]

/-- A re-check that does not find the entry as it was ends the grant, and the search begins again (R81). -/
theorem composerRecheck_changed (h : ∀ now, lookupKey e.key s = some now → ¬ sameEntry e now = true) (x : Extent)
    (v : Fin 4) (r : RecordBody) : composerRecheck x v e r s = searchAgain x v (endGrant s) := by
  unfold composerRecheck
  cases hk : lookupKey e.key s with
  | none => rfl
  | some now => exact if_neg (h now hk)

/-- The state in which a record's row is placed: the grant ended, the view's cursor moved on (R81). -/
def recordRead (v : Fin 4) (e : Entry) (s : State) : State :=
  (endGrant s).setView v ((s.view v).passed (entryPos e))

theorem placeRecord_eq (v : Fin 4) (r : RecordBody) (e : Entry) (s : State) :
    placeRecord v r e s = placeRow v (.record (recordRowOf r e s)) (recordRead v e s) := by
  simp only [placeRecord, recordRead, State.view_congr (endGrant_views s)]

theorem recordRead_view (v : Fin 4) (e : Entry) (s : State) :
    (recordRead v e s).view v = (s.view v).passed (entryPos e) := State.view_setView_same _ _ _

theorem recordRead_other (hu : u ≠ v) (e : Entry) (s : State) : (recordRead v e s).view u = s.view u :=
  (State.view_setView_other _ _ hu).trans (State.view_congr (endGrant_views s) u)

theorem recordRead_link (v u : Fin 4) (e : Entry) (s : State) : (recordRead v e s).link u = s.link u :=
  State.link_congr (endGrant_links s) u

/-- What a resume action does keeps the view's place in its pass. -/
theorem resumed_place (w : View) (a : Resume) :
    (w.resumed a).cursor = w.cursor ∧ (w.resumed a).anchor = w.anchor ∧ (w.resumed a).rowIndex = w.rowIndex := by
  cases a <;> exact ⟨rfl, rfl, rfl⟩

end

/-! ## Reads without a body (R82, R126, R128) -/

section

variable {op : Operation} {slot key : Nat}

theorem readBody_notServing (op : Operation) (slot key : Nat) (hs : s.serving = false) :
    readBody op slot key s = .notServing s := by
  unfold State.serving at hs
  unfold readBody
  cases hst : s.store.state <;> simp_all [serves]

/-- A read that no copy yields is a withdrawal (R126). -/
theorem readBody_unreadable (op : Operation) (key : Nat) (hs : s.serving = true) (hu : Unreadable s slot) :
    readBody op slot key s = withdraw op slot key s := by
  obtain ⟨hp, ho⟩ := hu
  unfold State.serving at hs
  unfold readBody
  cases hst : s.store.state <;> simp_all [serves, readPrimary, readMirrored]

/-- A stuck CORRECTABLE copy fails the store where the primary alone is read (R121, R128). -/
theorem readBody_fails (op : Operation) (key : Nat)
    (hs : s.store.state = .single ∨ s.store.state = .degraded ∨ s.store.state = .rebuilding)
    (hc : (s.copy s.store.primary slot).check = .correctable) (hk : (s.copy s.store.primary slot).stuck = true) :
    readBody op slot key s = .failed (failStore (some s.store.primary) slot (readKey op slot key s) op
      (writeCopy s.store.primary slot (s.copy s.store.primary slot).contents s)) := by
  unfold readBody
  rcases hs with hs | hs | hs <;> simp [hs, readPrimary, hc, hk]

theorem withdraw_gone (op : Operation) (h : ∀ x ∈ s.entries, ¬ (x.key = key ∧ x.slot = slot)) :
    withdraw op slot key s = .gone s := by
  have hn : entryAt key slot s = none := by
    rw [entryAt, List.find?_eq_none]
    simpa using h
  simp only [withdraw, hn]

/-- The state after a withdrawal (R126). -/
def withdrawnFrom (op : Operation) (slot key : Nat) (e : Entry) (s : State) : State :=
  raiseEvent .withdrawn (some slot) (some key) (some s.store.primary) none op (removeEntry e s)

theorem withdraw_live (op : Operation) {e : Entry} (h : entryAt key slot s = some e) :
    withdraw op slot key s = .withdrawn (withdrawnFrom op slot key e s) := by
  simp only [withdraw, h, withdrawnFrom]

theorem withdrawnFrom_facts (op : Operation) (slot key : Nat) (e : Entry) (s : State) :
    let t := withdrawnFrom op slot key e s
    t = { s with dir := t.dir, phrases := t.phrases, events := t.events } ∧
      t.dir = { s.dir with order := s.dir.order.filter fun y => !(y.key == e.key && y.slot == e.slot) } ∧
      t.phrases = (releaseEntry e s).phrases ∧
      t.events.firstFatal = s.events.firstFatal.or
        (some (captureAt .withdrawn slot (some key) (some s.store.primary) op s)) := by
  refine ⟨by apply State.ext <;> simp [withdrawnFrom], ?_, ?_, ?_⟩
  · simp [withdrawnFrom, removeEntry_eq]
  · simp [withdrawnFrom, removeEntry_eq]
  · rw [withdrawnFrom, raiseEvent_firstFatal, ← offered_eq_or]
    simp [EventKind.isFatal, captureAt, State.captureMinute]

end

/-- The state after a stuck CORRECTABLE primary copy has failed the store (R115, R128). -/
def storeFailed (slot : Nat) (s : State) : State :=
  failStore (some s.store.primary) slot (keyIn slot s) .compose
    (writeCopy s.store.primary slot (s.copy s.store.primary slot).contents s)

theorem storeFailed_facts {slot : Nat} (hk : (s.copy s.store.primary slot).stuck = true) :
    let t := storeFailed slot s
    FailedFrom s t slot (keyIn slot s) (some s.store.primary) .compose ∧
      t.copy s.store.primary slot = failedCopy (s.copy s.store.primary slot) ∧
      OtherCopiesKept s t [s.store.primary] slot ∧ t.arb = (s.withRequests false false).arb ∧
      t.sweep = { s.sweep with timer := none } ∧
      t = { s with mem := t.mem, store := t.store, dir := t.dir, phrases := t.phrases, events := t.events,
                   arb := t.arb, sweep := t.sweep } := by
  obtain ⟨hmem, hfailed⟩ := failStore_failed (some s.store.primary) slot (keyIn slot s) .compose
    (writeCopy s.store.primary slot (s.copy s.store.primary slot).contents s).mem s
  refine ⟨hfailed, (State.copy_congr hmem _ _).trans (copy_writeCopy_stuck s _ _ hk), fun b n hn => ?_, ?_, ?_, ?_⟩
  · exact (State.copy_congr hmem b n).trans (copy_writeCopy_other s _ (by simpa using hn))
  · simp [storeFailed, failStore, stopSweep, dropRequest, State.withRequests, Waiting.put, State.setWaiting]
  · simp [storeFailed, failStore, stopSweep, dropRequest, State.setWaiting]
  · apply State.ext <;> simp [storeFailed]

/-- The search that begins again is a step of COMPOSITION_START on the state whose grant has ended (R81, R82). -/
theorem exec_searchesAgain {e : Entry} (hg : GrantBegun .composer (some e.slot) e.key s)
    (hc : s.composer.work = .candidate v e) {t : State} (ht : t.inReset = s.inReset)
    (h : candidateGrant .whole (candidateBegun e) v e s = searchAgain .whole v (endGrant t)) :
    exec (.composerGrant .whole) s =
      exec (.compositionStart .whole) (State.setComposing (.searching v) (endGrant t)) := by
  have hr : (State.setComposing (.searching v) (endGrant t)).inReset = false := by simp [ht, hg.1]
  rw [exec_composerGrant hg hc, h, exec_compositionStart hr, compositionStep_searching rfl]
  rfl

end

/-! ## The obligations -/

/-- Settles O27: the placement by slot and mode, and the row that a taken view gets. -/
theorem placementFollowsSlotAndMode : Obligations.PlacementFollowsSlotAndMode := by
  refine ⟨fun s v content => ?place, fun s v x hr h => ?compose⟩
  case place =>
    intro t row w complete
    have hrow : rowOf v content s = row := by
      rw [rowOf, rowsStale_eq]
    refine ⟨fun hs => ⟨?_, ?_⟩, fun hs => ⟨?_, ?_⟩, fun u hu => (placeRow_other hu content s).symm,
      placeRow_frame v content s⟩
    · rw [placeRow_link_empty hs, hrow]
      rfl
    · have hview : t.view v = w.resumed w.afterRow := placeRow_view_empty hs
      rw [hview]
      exact ⟨fun hm hc => by rw [afterRow_onePass hm hc]; rfl,
        fun hm hc => by rw [afterRow_onePass_complete hm hc]; rfl,
        fun hm hc => by rw [afterRow_cyclic hm hc]; rfl,
        fun hm hc => by rw [afterRow_cyclic_complete hm hc]; rfl,
        fun hm => by rw [afterRow_stepped hm]; rfl⟩
    · rw [placeRow_link_full hs, hrow]
    · have hview : t.view v = { w with state := .parked, resume := some w.afterRow } := placeRow_view_full hs
      rw [hview]
      exact ⟨fun hm hc => by rw [afterRow_onePass hm hc],
        fun hm hc => by rw [afterRow_onePass_complete hm hc],
        fun hm hc => by rw [afterRow_cyclic hm hc],
        fun hm hc => by rw [afterRow_cyclic_complete hm hc],
        fun hm => by rw [afterRow_stepped hm]⟩
  case compose =>
    intro served taken noticeGone
    have hstep : exec (.compositionStart x) s = .next (composeRow x v (takenBy v s)) := by
      rw [exec_compositionStart hr, compositionStep_composes h]
    refine ⟨fun hn he => ?_, fun hn ha hp => ?_, fun hn hnot => ?_⟩
    · rw [hstep, composeRow_noNotice (s := takenBy v s) hn, composeOther_ended (s := takenBy v s) he]
      rfl
    · rw [hstep, composeRow_notice (s := takenBy v s) hn ((noticeReadable_iff s).mpr ⟨ha, hp⟩)]
      rfl
    · have hread : s.noticeReadable = false := by
        rw [Bool.eq_false_iff, ne_eq, noticeReadable_iff]
        tauto
      obtain ⟨hwhole, hfirst⟩ := composeRow_noticeGone (s := takenBy v s) hn hread
      refine ⟨fun hx => ?_, fun hx => ?_⟩
      · subst hx
        have hgone : exec (.compositionStart .whole) (noticeRead v s) =
            .next (composeRow .whole v (noticeRead v (takenBy v s))) := by
          rw [exec_compositionStart (s := noticeRead v s) hr, compositionStep_composes (Composes.afterRead h)]
          rfl
        rw [hstep, hwhole, ← composeRow_noNotice (noticeRead_noticeDue v _)]
        exact hgone.symm
      · subst hx
        have htaken : s.composer.work = .taken v := h.resolve_right fun hnext => nomatch hnext.1
        rw [hstep, hfirst, takenBy_self htaken]
        rfl

/-- Settles O25: the read changes nothing, the re-check finds the entry, and the row is placed in the empty slot. -/
theorem composerGrantPlacesARecordRow : Obligations.ComposerGrantPlacesARecordRow := by
  intro s v e r hg hc hs hp hfind hslot
  have hempty : ((recordRead v e s).link v).slot = none := by rwa [recordRead_link]
  have hview : (placeRecord v r e s).view v = (rowDone ((s.view v).passed (entryPos e))).resumed
      (rowDone ((s.view v).passed (entryPos e))).afterRow := by
    rw [placeRecord_eq, placeRow_view_empty hempty, recordRead_view]
  obtain ⟨hcursor, hanchor, hindex⟩ := resumed_place (rowDone ((s.view v).passed (entryPos e)))
    (rowDone ((s.view v).passed (entryPos e))).afterRow
  refine ⟨placeRecord v r e s, rowOf v (.record (recordRowOf r e s)) (recordRead v e s), ?_, rfl, ?_, ?_, ?_, rfl, ?_,
    ?_, ?_, ?_, ?_, fun u hu => ?_, ?_⟩
  · rw [exec_composerGrant hg hc, candidateGrant_body (readBody_good .compose e.key hs hp),
      composerRecheck_same hfind]
  · simp only [rowOf, recordRead_view, View.passed]
  · simp only [rowOf, recordRead_view, View.passed]
  · simp [rowOf, State.rowsStale, State.params, recordRead]
  · rw [placeRecord_eq, placeRow_link_empty hempty, recordRead_link]
    rfl
  · rw [hview, hcursor]
    rfl
  · rw [hview, hanchor]
    rfl
  · rw [hview, hindex]
    rfl
  · rw [placeRecord_eq, placeRow_composer]
  · obtain ⟨hother, hlink⟩ := placeRow_other hu (.record (recordRowOf r e s)) (recordRead v e s)
    rw [placeRecord_eq, hother, hlink, recordRead_other hu, recordRead_link]
    exact ⟨rfl, rfl⟩
  · have hmem : (placeRecord v r e s).mem = s.mem := by
      simp [placeRecord_eq, recordRead, State.setView, endGrant_mem hg.2.1]
    refine ⟨?_, State.copy_congr hmem, ?_⟩
    · simp [placeRecord_eq, recordRead]
    · simp [placeRecord_eq, recordRead, GrantEnded]

/-- Settles O26: one claim of a search in each of its cases, and each way in which a grant gives no row. -/
theorem searchClaimsWalkTheOrder : Obligations.SearchClaimsWalkTheOrder := by
  refine ⟨fun s v hr hw => ?claims, fun s v e hg hc => ?grants⟩
  case claims =>
    intro w found beyond
    refine ⟨fun e hf hb => ?_, fun e hf hb hk => ?_, fun e hf hb hk => ?_, fun hf hwrap hn => ?_, fun hf hn => ?_⟩
    · exact exec_searchClaim hr hw (searchClaim_beyond hf ((atWrapLimit_iff _ _).mpr hb))
    · rw [exec_searchClaim hr hw (searchClaim_skips hf (mt (atWrapLimit_iff _ _).mp hb) hk), finishSearch_again hw]
      rfl
    · rw [exec_searchClaim hr hw (searchClaim_finds hf (mt (atWrapLimit_iff _ _).mp hb) hk), finishSearch_candidate]
    · rw [exec_searchClaim hr hw (searchClaim_wraps hf hwrap hn), finishSearch_again hw]
      rfl
    · exact exec_searchClaim hr hw (searchClaim_ends hf hn)
  case grants =>
    intro searchesAgain
    have again {a : ReadAnswer} {t : State} (ha : readBody .compose e.slot e.key s = a) (hn : ∀ r u, a ≠ .body r u)
        (hat : a.after = t) (ht : t.inReset = s.inReset) : searchesAgain t :=
      exec_searchesAgain hg hc ht (hat ▸ candidateGrant_noBody ha hn .whole)
    refine ⟨fun r hs hp hx => ?_, fun hs => ?_, fun hs hu hx => ?_, fun x hs ho hu hx => ?_, fun hs hcheck hk => ?_⟩
    · refine exec_searchesAgain hg hc rfl ?_
      rw [candidateGrant_body (readBody_good .compose e.key hs hp)]
      exact composerRecheck_changed (fun now hnow => mt (sameEntry_iff e now).mp (hx now hnow)) _ _ _
    · exact again (readBody_notServing _ _ _ hs) (fun _ _ h => nomatch h) rfl rfl
    · exact again ((readBody_unreadable _ _ hs hu).trans (withdraw_gone _ hx)) (fun _ _ h => nomatch h) rfl rfl
    · have hentry : entryAt e.key e.slot s = some x := by rwa [entryAt, entries_open ho]
      have hread := (readBody_unreadable .compose e.key hs hu).trans (withdraw_live .compose hentry)
      have hagain : searchesAgain (withdrawnFrom .compose e.slot e.key x s) :=
        again hread (fun _ _ h => nomatch h) rfl (by simp [withdrawnFrom])
      exact ⟨_, hagain, withdrawnFrom_facts .compose e.slot e.key x s⟩
    · have hread : readBody .compose e.slot e.key s = .failed (storeFailed e.slot s) := readBody_fails _ _ hs hcheck hk
      have hagain : searchesAgain (storeFailed e.slot s) :=
        again hread (fun _ _ h => nomatch h) rfl (by simp [storeFailed])
      exact ⟨_, hagain, storeFailed_facts hk⟩

end Sys2Proof.Proofs.Composition

/-!
PROOFS. Steps that stop at their first part (log 4). A grant that stops after its access leaves the access noted in the
grant, and what follows reads nothing of that note, so the row's next step ends as the whole step does. A fetch command's
new attempt, a taken view and a search that stops after one claim are each taken up by the next step.
-/

namespace Sys2Proof.Proofs.HalfSteps

open Sys2Proof Sys2Proof.Machine Sys2Proof.Proofs.ServiceDay Sys2Proof.Proofs.ViewRules
open Sys2Proof.Proofs.Composition

/-! ## A step and its first part -/

/-- The first part of a step is the whole of it, or the row's next whole step completes it. -/
def CompletedBy (f : Extent → State → State) (s : State) : Prop :=
  f .whole s = f .firstPart s ∨ ((f .firstPart s).inReset = s.inReset ∧ f .whole (f .firstPart s) = f .whole s)

section

variable {s t u : State} {f : Extent → State → State}

theorem whenAwake_inReset (f : State → State) (h : s.inReset = true) : whenAwake f s = .next s := by
  simp [whenAwake, h]

/-- What an awake part's rows do, for a row whose first part its next step completes. -/
theorem row_completes {row : Extent → Instr} (hrow : ∀ x t, exec (row x) t = whenAwake (f x) t)
    (h : ∀ t, CompletedBy f t) (s : State) : ∃ m, exec (row .firstPart) s = .next m ∧
      (exec (row .whole) s = .next m ∨ exec (row .whole) m = exec (row .whole) s) := by
  simp only [hrow]
  cases hr : s.inReset with
  | true => exact ⟨s, whenAwake_inReset _ hr, .inl (whenAwake_inReset _ hr)⟩
  | false =>
    refine ⟨f .firstPart s, whenAwake_awake _ hr, ?_⟩
    rw [whenAwake_awake _ hr]
    refine (h s).imp (congrArg Host.Outcome.next) fun ⟨hreset, hnext⟩ => ?_
    rw [whenAwake_awake _ (hreset.trans hr), hnext]

/-- A step that stops with its access noted in the grant, where what follows the access reads nothing of the note. -/
theorem completed_of_progress {g : Grant} {p : Progress} {rest : State → State}
    (hfirst : f .firstPart s = setProgress g p t) (hwhole : f .whole s = rest t)
    (hnext : f .whole (setProgress g p t) = rest (setProgress g p t)) (hrest : ∀ h u, rest (withHeld h u) = rest u)
    (hr : t.inReset = s.inReset) : CompletedBy f s := by
  refine .inr ?_
  rw [hfirst, hwhole, hnext]
  exact ⟨hr, hrest _ t⟩

theorem completed_of_eq (h : ∀ x, f x s = u) : CompletedBy f s := .inl ((h .whole).trans (h .firstPart).symm)

/-! ## The grant noted -/

theorem grantOf_holder {r : Requester} {g : Grant} (h : s.grantOf r = some g) : g.holder = r := by
  unfold State.grantOf at h
  repeat' split at h
  all_goals cases h
  assumption

theorem grantOf_setProgress {r : Requester} {g : Grant} (h : s.grantOf r = some g) (p : Progress) (t : State) :
    (setProgress g p t).grantOf r = some { g with progress := p } := if_pos (grantOf_holder h)

theorem readBody_frame {op : Operation} {slot key : Nat} {a : ReadAnswer} (h : readBody op slot key s = a) :
    a.after.inReset = s.inReset ∧ a.after.cmd = s.cmd ∧ a.after.composer = s.composer := by
  subst h
  simp

theorem writeBody_frame {op : Operation} {slot : Nat} {r : RecordBody} {a : WriteAnswer}
    (h : writeBody op slot r s = a) : a.after.inReset = s.inReset ∧ a.after.cmd = s.cmd := by
  subst h
  simp

/-! ## ADD (R28) -/

theorem addGrantStep_held {key slot : Nat} {g : Grant} (hc : s.cmd = some (.add key slot))
    (hg : s.grantOf .command = some g) (x : Extent) : addGrantStep x s = addGrantWork x g slot s := by
  simp only [addGrantStep, hc, hg]

theorem addGrantStep_idle (h : ¬ ∃ key slot g, s.cmd = some (.add key slot) ∧ s.grantOf .command = some g)
    (x : Extent) : addGrantStep x s = s := by
  unfold addGrantStep
  split
  · next hc hg => exact absurd ⟨_, _, _, hc, hg⟩ h
  · rfl

theorem addGrantStep_completes (s : State) : CompletedBy addGrantStep s := by
  by_cases h : ∃ key slot g, s.cmd = some (.add key slot) ∧ s.grantOf .command = some g
  · obtain ⟨key, slot, g, hc, hg⟩ := h
    have held := addGrantStep_held hc hg
    cases hp : g.progress with
    | accessed r clamped => exact completed_of_eq fun x => by rw [held]; simp only [addGrantWork, hp]; rfl
    | queried live => exact completed_of_eq fun x => by rw [held]; simp only [addGrantWork, hp]; rfl
    | begun =>
      cases hw : writeBody .command slot s.stagedBody s with
      | notServing t => exact completed_of_eq fun x => by rw [held]; simp only [addGrantWork, hp, hw]; rfl
      | failed t => exact completed_of_eq fun x => by rw [held]; simp only [addGrantWork, hp, hw]; rfl
      | stored t =>
        obtain ⟨hr, hcmd⟩ := writeBody_frame hw
        refine completed_of_progress (g := g) (p := .accessed s.stagedBody false) (t := t) ?_ ?_ ?_
          (addInsert_withHeld slot s.stagedBody) hr
        · rw [held]
          simp only [addGrantWork, hp, hw]
        · rw [held]
          simp only [addGrantWork, hp, hw]
        · exact addGrantStep_held (s := setProgress g _ t) (hcmd.trans hc) (grantOf_setProgress hg _ t) .whole
  · exact completed_of_eq (addGrantStep_idle h)

/-! ## AMEND (R32) -/

theorem amendGrantStep_held {key slot n : Nat} {g : Grant} (hc : s.cmd = some (.amend key slot n))
    (hg : s.grantOf .command = some g) (x : Extent) : amendGrantStep x s = amendGrantWork x g key slot s := by
  simp only [amendGrantStep, hc, hg]

theorem amendGrantStep_idle (h : ¬ ∃ key slot n g, s.cmd = some (.amend key slot n) ∧ s.grantOf .command = some g)
    (x : Extent) : amendGrantStep x s = s := by
  unfold amendGrantStep
  split
  · next hc hg => exact absurd ⟨_, _, _, _, hc, hg⟩ h
  · rfl

theorem amendGrantStep_completes (s : State) : CompletedBy amendGrantStep s := by
  by_cases h : ∃ key slot n g, s.cmd = some (.amend key slot n) ∧ s.grantOf .command = some g
  · obtain ⟨key, slot, n, g, hc, hg⟩ := h
    have held := amendGrantStep_held hc hg
    cases hp : g.progress with
    | accessed r clamped => exact completed_of_eq fun x => by rw [held]; simp only [amendGrantWork, hp]; rfl
    | queried live => exact completed_of_eq fun x => by rw [held]; simp only [amendGrantWork, hp]; rfl
    | begun =>
      cases hb : readBody .command slot key s with
      | body r t =>
        obtain ⟨hrt, hct, _⟩ := readBody_frame hb
        cases hw : writeBody .command slot (t.amended r) t with
        | stored u =>
          obtain ⟨hru, hcu⟩ := writeBody_frame hw
          refine completed_of_progress (g := g) (p := .accessed (t.amended r) false) (t := u) ?_ ?_ ?_
            (amendUpdate_withHeld key slot (t.amended r)) (hru.trans hrt)
          · rw [held]
            simp only [amendGrantWork, hp, hb, amendWrite, hw]
          · rw [held]
            simp only [amendGrantWork, hp, hb, amendWrite, hw]
          · exact amendGrantStep_held (s := setProgress g _ u) (hcu.trans (hct.trans hc)) (grantOf_setProgress hg _ u)
              .whole
        | _ => exact completed_of_eq fun x => by rw [held]; simp only [amendGrantWork, hp, hb, amendWrite, hw]; rfl
      | _ => exact completed_of_eq fun x => by rw [held]; simp only [amendGrantWork, hp, hb]; rfl
  · exact completed_of_eq (amendGrantStep_idle h)

/-! ## The rebase (R67) -/

theorem rebaseGrantStep_held {d : NewDay} {key slot : Nat} {g : Grant} (hc : s.cmd = some (.newDay d))
    (hd : d.rebase = some (key, slot)) (hg : s.grantOf .command = some g) (x : Extent) :
    rebaseGrantStep x s = rebaseGrantWork x g d key slot s := by
  simp only [rebaseGrantStep, hc, hd, hg]

theorem rebaseGrantStep_idle (h : ¬ ∃ d key slot g, s.cmd = some (.newDay d) ∧ d.rebase = some (key, slot) ∧
    s.grantOf .command = some g) (x : Extent) : rebaseGrantStep x s = s := by
  unfold rebaseGrantStep
  split
  · next hc hg =>
    split
    · rfl
    · next hd => exact absurd ⟨_, _, _, _, hc, hd, hg⟩ h
  · rfl

theorem rebaseGrantStep_completes (s : State) : CompletedBy rebaseGrantStep s := by
  by_cases h : ∃ d key slot g, s.cmd = some (.newDay d) ∧ d.rebase = some (key, slot) ∧ s.grantOf .command = some g
  · obtain ⟨d, key, slot, g, hc, hd, hg⟩ := h
    have held := rebaseGrantStep_held hc hd hg
    cases hp : g.progress with
    | accessed r clamped => exact completed_of_eq fun x => by rw [held]; simp only [rebaseGrantWork, hp]; rfl
    | queried live => exact completed_of_eq fun x => by rw [held]; simp only [rebaseGrantWork, hp]; rfl
    | begun =>
      cases hb : readBody .command slot key s with
      | body r t =>
        obtain ⟨hrt, hct, _⟩ := readBody_frame hb
        cases hw : writeBody .command slot (rebasedBody r).1 t with
        | stored u =>
          obtain ⟨hru, hcu⟩ := writeBody_frame hw
          refine completed_of_progress (g := g) (p := .accessed (rebasedBody r).1 (rebasedBody r).2) (t := u) ?_ ?_ ?_
            (rebaseUpdate_withHeld d key slot (rebasedBody r).1 (rebasedBody r).2) (hru.trans hrt)
          · rw [held]
            simp only [rebaseGrantWork, hp, hb, rebaseWrite, hw]
          · rw [held]
            simp only [rebaseGrantWork, hp, hb, rebaseWrite, hw]
          · exact rebaseGrantStep_held (s := setProgress g _ u) (hcu.trans (hct.trans hc)) hd
              (grantOf_setProgress hg _ u) .whole
        | _ => exact completed_of_eq fun x => by rw [held]; simp only [rebaseGrantWork, hp, hb, rebaseWrite, hw]; rfl
      | _ => exact completed_of_eq fun x => by rw [held]; simp only [rebaseGrantWork, hp, hb]; rfl
  · exact completed_of_eq (rebaseGrantStep_idle h)

/-! ## The fetch commands (R36) -/

theorem fetchGrantStep_held {how : Find} {key slot n : Nat} {g : Grant} (hc : s.cmd = some (.fetch how key slot n))
    (hg : s.grantOf .command = some g) (x : Extent) : fetchGrantStep x s = fetchGrantWork x g how key slot s := by
  simp only [fetchGrantStep, hc, hg]

/-- Without a fetch command's grant, both steps make the find claim that is due, if one is. -/
theorem fetchGrantStep_noGrant
    (h : ¬ ∃ how key slot n g, s.cmd = some (.fetch how key slot n) ∧ s.grantOf .command = some g) (x : Extent) :
    fetchGrantStep x s = fetchGrantStep .whole s := by
  unfold fetchGrantStep
  split
  · next hc hg => exact absurd ⟨_, _, _, _, _, hc, hg⟩ h
  · rfl
  · rfl

/-- A failed attempt ends the command, or its new attempt is made by the row's next step. -/
theorem attemptFailed_completes {how : Find} {key slot : Nat}
    (h : ∀ x, fetchGrantStep x s = attemptFailed x how key slot t) (hr : t.inReset = s.inReset) :
    CompletedBy fetchGrantStep s := by
  cases how with
  | byKey k => exact completed_of_eq h
  | byRank n =>
    refine .inr ?_
    rw [h, h]
    exact ⟨(endGrant_inReset _).trans hr, fetchGrantStep_attemptDue ..⟩
  | after p =>
    refine .inr ?_
    rw [h, h]
    exact ⟨(endGrant_inReset _).trans hr, fetchGrantStep_attemptDue ..⟩

theorem fetchRecheck_completes {how : Find} {key slot : Nat} {r : RecordBody}
    (h : ∀ x, fetchGrantStep x s = fetchRecheck x how key slot r s) : CompletedBy fetchGrantStep s := by
  by_cases hopen : s.dir.isOpen = true
  · cases he : entryAt key slot s with
    | none => exact attemptFailed_completes (fun x => (h x).trans (by simp only [fetchRecheck, hopen, he]; rfl)) rfl
    | some e => exact completed_of_eq fun x => (h x).trans (by simp only [fetchRecheck, hopen, he]; rfl)
  · exact completed_of_eq fun x => (h x).trans (by simp only [fetchRecheck, hopen]; rfl)

theorem fetchGrantStep_completes (s : State) : CompletedBy fetchGrantStep s := by
  by_cases h : ∃ how key slot n g, s.cmd = some (.fetch how key slot n) ∧ s.grantOf .command = some g
  · obtain ⟨how, key, slot, n, g, hc, hg⟩ := h
    have held := fetchGrantStep_held hc hg
    cases hp : g.progress with
    | accessed r clamped => exact fetchRecheck_completes fun x => by rw [held]; simp only [fetchGrantWork, hp]; rfl
    | queried live => exact completed_of_eq fun x => by rw [held]; simp only [fetchGrantWork, hp]; rfl
    | begun =>
      cases hb : readBody .command slot key s with
      | body r t =>
        obtain ⟨hrt, hct, _⟩ := readBody_frame hb
        refine completed_of_progress (g := g) (p := .accessed r false) (t := t) ?_ ?_ ?_
          (fetchRecheck_withHeld .whole how key slot r) hrt
        · rw [held]
          simp only [fetchGrantWork, hp, hb]
        · rw [held]
          simp only [fetchGrantWork, hp, hb]
        · exact fetchGrantStep_held (s := setProgress g _ t) (hct.trans hc) (grantOf_setProgress hg _ t) .whole
      | gone t =>
        exact attemptFailed_completes (how := how) (key := key) (slot := slot) (t := t) 
          (fun x => by rw [held]; simp only [fetchGrantWork, hp, hb]) (readBody_frame hb).1
      | _ => exact completed_of_eq fun x => by rw [held]; simp only [fetchGrantWork, hp, hb]; rfl
  · exact completed_of_eq (fetchGrantStep_noGrant h)

/-! ## The copier and the sweep (R136, R144) -/

theorem copierGrantStep_held {g : Grant} {slot : Nat} (hg : s.grantOf .copier = some g)
    (hstate : s.store.state = .rebuilding) (hslot : g.slot = some slot) (x : Extent) :
    copierGrantStep x s = copierWork x g slot s := by
  simp only [copierGrantStep, hg, if_pos hstate, hslot]

/-- Without a grant on a slot in REBUILDING both steps do the same: they end the grant of another state. -/
theorem copierGrantStep_noSlot (h : ¬ ∃ g slot, s.grantOf .copier = some g ∧ s.store.state = .rebuilding ∧
    g.slot = some slot) (x : Extent) : copierGrantStep x s = copierGrantStep .whole s := by
  unfold copierGrantStep
  split
  · rfl
  · next hg =>
    split
    · next hstate =>
      split
      · rfl
      · next hslot => exact absurd ⟨_, _, hg, hstate, hslot⟩ h
    · rfl

theorem copierGrantStep_completes (s : State) : CompletedBy copierGrantStep s := by
  by_cases h : ∃ g slot, s.grantOf .copier = some g ∧ s.store.state = .rebuilding ∧ g.slot = some slot
  · obtain ⟨g, slot, hg, hstate, hslot⟩ := h
    have held := copierGrantStep_held hg hstate hslot
    cases hp : g.progress with
    | accessed r clamped => exact completed_of_eq fun x => by rw [held]; simp only [copierWork, hp]; rfl
    | queried live => exact completed_of_eq fun x => by rw [held]; simp only [copierWork, hp]; rfl
    | begun =>
      refine completed_of_progress (g := g) (p := .queried (slotQuery slot s)) (t := s) ?_ ?_ ?_
        (copierAccess_withHeld slot (slotQuery slot s)) rfl
      · rw [held]
        simp only [copierWork, hp]
      · rw [held]
        simp only [copierWork, hp]
      · exact copierGrantStep_held (grantOf_setProgress hg (.queried _) s) hstate hslot .whole
  · exact completed_of_eq (copierGrantStep_noSlot h)

theorem sweepGrantStep_held {g : Grant} {slot : Nat} (hg : s.grantOf .sweep = some g) (hslot : g.slot = some slot)
    (x : Extent) : sweepGrantStep x s = sweepWork x g slot s := by
  simp only [sweepGrantStep, hg, hslot]

theorem sweepGrantStep_idle (h : ¬ ∃ g slot, s.grantOf .sweep = some g ∧ g.slot = some slot) (x : Extent) :
    sweepGrantStep x s = s := by
  unfold sweepGrantStep
  split
  · rfl
  · next hg =>
    split
    · rfl
    · next hslot => exact absurd ⟨_, _, hg, hslot⟩ h

theorem sweepGrantStep_completes (s : State) : CompletedBy sweepGrantStep s := by
  by_cases h : ∃ g slot, s.grantOf .sweep = some g ∧ g.slot = some slot
  · obtain ⟨g, slot, hg, hslot⟩ := h
    have held := sweepGrantStep_held hg hslot
    cases hp : g.progress with
    | accessed r clamped => exact completed_of_eq fun x => by rw [held]; simp only [sweepWork, hp]; rfl
    | queried live => exact completed_of_eq fun x => by rw [held]; simp only [sweepWork, hp]; rfl
    | begun =>
      refine completed_of_progress (g := g) (p := .queried (slotQuery slot s)) (t := s) ?_ ?_ ?_
        (sweepAccess_withHeld slot (slotQuery slot s)) rfl
      · rw [held]
        simp only [sweepWork, hp]
      · rw [held]
        simp only [sweepWork, hp]
      · exact sweepGrantStep_held (grantOf_setProgress hg (.queried _) s) hslot .whole
  · exact completed_of_eq (sweepGrantStep_idle h)

/-! ## The composer's searches (R80) -/

/-- A search with claims left over: one that neither skips nor wraps gives its answer with the first. -/
theorem searchWithin_last {w : View} (hskip : w.skip = 0) (hwrapped : notWrapped w.wrapped = false) (n : Nat) :
    searchWithin (n + 1) w s = searchClaim w s := by
  rw [searchWithin_succ]
  cases hclaim : searchClaim w s with
  | again w' => exact absurd hclaim (searchClaim_last hskip hwrapped w')
  | nothing w' => rfl
  | candidate w' e => rfl

/-- The claims of a whole search that follow its first are a whole search. -/
theorem searchWithin_again {w w' : View} (h : searchClaim w s = .again w') :
    searchWithin (searchLength .whole w) w s = searchWithin (searchLength .whole w') w' s := by
  have hfirst : searchWithin (searchLength .whole w) w s = searchWithin (w.skip + 1) w' s := by
    rw [searchLength, searchWithin_succ, h]
  rw [hfirst]
  rcases searchClaim_again h with hskip | ⟨hskip, hwrapped⟩
  · rw [hskip, searchLength]
  · rw [searchLength, searchWithin_last hskip hwrapped, searchWithin_last hskip hwrapped]

/-- The claims of a search read the Directory only (R80). -/
theorem searchWithin_congr (hdir : t.dir = s.dir) (n : Nat) (w : View) : searchWithin n w t = searchWithin n w s := by
  induction n generalizing w with
  | zero => rfl
  | succ n ih =>
    have hclaim : searchClaim w t = searchClaim w s := by
      simp only [searchClaim, nextAfter, State.entries, hdir]
    rw [searchWithin_succ, searchWithin_succ, hclaim]
    cases searchClaim w s with
    | again w' => exact ih w'
    | nothing w' => rfl
    | candidate w' e => rfl

theorem setView_noted (v : Fin 4) (w w' : View) (c : Composing) (s : State) :
    ((s.setView v w).setComposing c).setView v w' = (s.setView v w').setComposing c := by
  have hviews : ((s.setView v w).setView v w').views = (s.setView v w').views := by
    simp [State.setView]
  exact congrArg (fun views => { s with views := views, composer := { s.composer with work := c } }) hviews

theorem placeRow_setComposing (v : Fin 4) (content : RowContent) (c : Composing) (s : State) :
    placeRow v content (s.setComposing c) = placeRow v content s := by
  by_cases hslot : (s.link v).slot = none
  · rw [placeRow_empty hslot, placeRow_empty (s := s.setComposing c) hslot]
    rfl
  · rw [placeRow_full hslot, placeRow_full (s := s.setComposing c) hslot]
    rfl

/-- What follows a search's answer reads neither the view that the search began with nor the composer's work. -/
theorem finishSearch_noted (v : Fin 4) (w : View) (c : Composing) (s : State) (a : SearchAnswer) :
    finishSearch v ((s.setView v w).setComposing c) a = finishSearch v s a := by
  cases a with
  | again w' => rw [finishSearch, setView_noted]; rfl
  | nothing w' => rw [finishSearch, setView_noted, placeRow_setComposing]; rfl
  | candidate w' e => rw [finishSearch, setView_noted]; rfl

/-- A whole search goes on from its first claim as a whole search of the view that the claim leaves. -/
theorem continueSearch_afterClaim {v : Fin 4} {w : View} (h : searchClaim (s.view v) s = .again w) (c : Composing) :
    continueSearch .whole v ((s.setView v w).setComposing c) = continueSearch .whole v s := by
  have hview : ((s.setView v w).setComposing c).view v = w := State.view_setView_same _ _ _
  rw [continueSearch_eq, continueSearch_eq, finishSearch_noted, hview, searchWithin_again h]
  have hdir : ((s.setView v w).setComposing c).dir = s.dir := rfl
  rw [searchWithin_congr hdir]

/-- A claim that ends the search answers the whole search. -/
theorem continueSearch_ended {v : Fin 4} (h : ∀ w, searchClaim (s.view v) s ≠ .again w) :
    continueSearch .whole v s = continueSearch .firstPart v s := by
  have hwhole : searchWithin (searchLength .whole (s.view v)) (s.view v) s = searchClaim (s.view v) s := by
    rw [searchLength, searchWithin_succ]
    cases hclaim : searchClaim (s.view v) s with
    | again w => exact absurd hclaim (h w)
    | nothing w => rfl
    | candidate w e => rfl
  rw [continueSearch_firstPart, continueSearch_eq, hwhole]

/-- A search that stops after one claim is gone on with by the row's next step. -/
theorem continueSearch_completes {v : Fin 4} (h : ∀ x, compositionStep x s = continueSearch x v s) :
    CompletedBy compositionStep s := by
  cases hclaim : searchClaim (s.view v) s with
  | again w =>
    have hfirst : compositionStep .firstPart s = (s.setView v w).setComposing (.searching v) := by
      rw [h, continueSearch_firstPart, hclaim, finishSearch]
    refine .inr ?_
    rw [hfirst, h, compositionStep_searching (v := v) rfl]
    exact ⟨rfl, continueSearch_afterClaim hclaim _⟩
  | nothing w => exact .inl (by rw [h, h]; exact continueSearch_ended (by simp [hclaim]))
  | candidate w e => exact .inl (by rw [h, h]; exact continueSearch_ended (by simp [hclaim]))

theorem composeOther_completes {v : Fin 4} (h : ∀ x, compositionStep x s = composeOther x v s) :
    CompletedBy compositionStep s := by
  by_cases hended : (s.view v).searchEnded = true
  · exact completed_of_eq fun x => (h x).trans (composeOther_ended hended x)
  · exact continueSearch_completes fun x => (h x).trans (if_neg hended)

theorem composeRow_completes {v : Fin 4} (hwork : s.composer.work = .taken v) : CompletedBy compositionStep s := by
  have taken := compositionStep_taken hwork
  by_cases hdue : (s.view v).noticeDue = true
  · by_cases hread : s.noticeReadable = true
    · exact completed_of_eq fun x => (taken x).trans (composeRow_notice hdue hread x)
    · have hgone := composeRow_noticeGone hdue (Bool.eq_false_iff.mpr hread)
      have hnoted : compositionStep .firstPart s = noticeRead v s := (taken _).trans hgone.2
      refine .inr ⟨by rw [hnoted]; rfl, ?_⟩
      rw [hnoted, taken, compositionStep_taken (s := noticeRead v s) hwork, ← hgone.2]
      exact composeRow_noticeRead hdue (Bool.eq_false_iff.mpr hread)
  · exact composeOther_completes fun x => (taken x).trans (composeRow_noNotice (Bool.eq_false_iff.mpr hdue) x)

theorem compositionStep_completes (s : State) : CompletedBy compositionStep s := by
  cases hwork : s.composer.work with
  | free =>
    have hfree (x : Extent) : compositionStep x s = startComposition x s := by simp only [compositionStep, hwork]
    exact .inr ⟨by simp, by rw [hfree, hfree, compositionStep_startComposition hwork]⟩
  | taken v => exact composeRow_completes hwork
  | searching v => exact continueSearch_completes (compositionStep_searching hwork)
  | candidate v e => exact completed_of_eq (u := s) fun x => by simp only [compositionStep, hwork]
  | draining => exact completed_of_eq (u := s) fun x => by simp only [compositionStep, hwork]

/-! ## The composer's grant (R81, R82) -/

/-- The first part of the composer's grant step completed by the row's next step, or, where it leaves a new search due,
by the next step of the composition. -/
def GrantCompleted (s : State) : Prop :=
  CompletedBy composerGrantStep s ∨ ((composerGrantStep .firstPart s).inReset = s.inReset ∧
    compositionStep .whole (composerGrantStep .firstPart s) = composerGrantStep .whole s)

/-- A new search that a grant has left due is made by the next step of the composition (R81, R82). -/
theorem searchAgain_completes {v : Fin 4} (h : ∀ x, composerGrantStep x s = searchAgain x v t)
    (hr : t.inReset = s.inReset) : GrantCompleted s := by
  refine .inr ?_
  rw [h, h]
  exact ⟨hr, compositionStep_searching (s := t.setComposing (.searching v)) rfl .whole⟩

theorem composerRecheck_completes {v : Fin 4} {e : Entry} {r : RecordBody}
    (h : ∀ x, composerGrantStep x s = composerRecheck x v e r s) : GrantCompleted s := by
  by_cases hsame : ∃ now, lookupKey e.key s = some now ∧ sameEntry e now = true
  · obtain ⟨now, hkey, heq⟩ := hsame
    exact .inl (completed_of_eq fun x => (h x).trans (by simp only [composerRecheck, hkey, if_pos heq]; rfl))
  · have hchanged := composerRecheck_changed (v := v) (r := r) fun now hkey heq => hsame ⟨now, hkey, heq⟩
    exact searchAgain_completes (fun x => (h x).trans (hchanged x)) (by simp)

theorem composerGrantStep_candidate {g : Grant} {v : Fin 4} {e : Entry} (hg : s.grantOf .composer = some g)
    (hwork : s.composer.work = .candidate v e) (x : Extent) : composerGrantStep x s = candidateGrant x g v e s := by
  simp only [composerGrantStep, hg, hwork]

/-- Without a candidate both steps do the same: they finish the grant of an abandoned composition. -/
theorem composerGrantStep_noCandidate
    (h : ¬ ∃ g v e, s.grantOf .composer = some g ∧ s.composer.work = .candidate v e) (x : Extent) :
    composerGrantStep x s = composerGrantStep .whole s := by
  unfold composerGrantStep
  split
  · rfl
  · next hg =>
    cases hwork : s.composer.work with
    | candidate v e => exact absurd ⟨_, v, e, hg, hwork⟩ h
    | _ => rfl

theorem composerGrantStep_completes (s : State) : GrantCompleted s := by
  by_cases h : ∃ g v e, s.grantOf .composer = some g ∧ s.composer.work = .candidate v e
  · obtain ⟨g, v, e, hg, hwork⟩ := h
    have held := composerGrantStep_candidate hg hwork
    cases hp : g.progress with
    | accessed r clamped => exact composerRecheck_completes fun x => by rw [held]; simp only [candidateGrant, hp]; rfl
    | queried live => exact .inl (completed_of_eq fun x => by rw [held]; simp only [candidateGrant, hp]; rfl)
    | begun =>
      cases hb : readBody .compose e.slot e.key s with
      | body r t =>
        obtain ⟨hrt, _, hcomposer⟩ := readBody_frame hb
        refine .inl (completed_of_progress (g := g) (p := .accessed r false) (t := t) ?_ ?_ ?_
          (composerRecheck_withHeld .whole v e r) hrt)
        · rw [held]
          simp only [candidateGrant, hp, hb]
        · rw [held]
          simp only [candidateGrant, hp, hb]
        · exact composerGrantStep_candidate (s := setProgress g _ t) (grantOf_setProgress hg _ t)
            ((congrArg Composer.work hcomposer).trans hwork) .whole
      | _ t =>
        have ht := (readBody_frame hb).1
        exact searchAgain_completes (v := v) (t := endGrant t)
          (fun x => by rw [held]; simp only [candidateGrant, hp, hb]) ((endGrant_inReset t).trans ht)
  · exact .inl (completed_of_eq (composerGrantStep_noCandidate h))

end

/-- Settles O51: a step that stops at its first part is completed by the next step of its row, and a new search that
the composer's grant leaves due by the next step of the composition. -/
theorem halfStepsCompleteToWholeSteps : Obligations.HalfStepsCompleteToWholeSteps := by
  refine ⟨fun row hrow s => ?_, fun s => ?_⟩
  · simp only [List.mem_cons, List.not_mem_nil, or_false] at hrow
    rcases hrow with rfl | rfl | rfl | rfl | rfl | rfl | rfl
    · exact row_completes (fun _ _ => rfl) addGrantStep_completes s
    · exact row_completes (fun _ _ => rfl) amendGrantStep_completes s
    · exact row_completes (fun _ _ => rfl) fetchGrantStep_completes s
    · exact row_completes (fun _ _ => rfl) rebaseGrantStep_completes s
    · exact row_completes (fun _ _ => rfl) copierGrantStep_completes s
    · exact row_completes (fun _ _ => rfl) sweepGrantStep_completes s
    · exact row_completes (fun _ _ => rfl) compositionStep_completes s
  · cases hr : s.inReset with
    | true =>
      have idle (x : Extent) : exec (.composerGrant x) s = .next s := whenAwake_inReset _ hr
      exact ⟨s, idle _, .inl (idle _)⟩
    | false =>
      have awake (x : Extent) : exec (.composerGrant x) s = .next (composerGrantStep x s) := whenAwake_awake _ hr
      refine ⟨composerGrantStep .firstPart s, awake _, ?_⟩
      rw [awake]
      rcases composerGrantStep_completes s with (hsame | ⟨hreset, hnext⟩) | ⟨hreset, hnext⟩
      · exact .inl (congrArg Host.Outcome.next hsame)
      · exact .inr (.inl ((whenAwake_awake _ (hreset.trans hr)).trans (congrArg Host.Outcome.next hnext)))
      · exact .inr (.inr ((whenAwake_awake _ (hreset.trans hr)).trans (congrArg Host.Outcome.next hnext)))

end Sys2Proof.Proofs.HalfSteps

/-!
PROOFS. The frames of rows and the FRAME line (R174, R175, R113): the sum of a frame's bytes, its length by the kind of
its row, and the levels of a byte's ten bit times.
-/

namespace Sys2Proof.Proofs.RowFrames

open Sys2Proof Sys2Proof.Machine

/-! ## The bytes of a frame (R174, R175) -/

theorem byteSum_eq_sum (l : List Byte) : byteSum l = l.sum := rfl

theorem byteSum_rowFrame (r : Row) : byteSum (rowFrame r) = 0 :=
  calc byteSum (rowFrame r)
    _ = byteSum (frameBody r) + -byteSum (frameBody r) := by
      simp only [byteSum_eq_sum, rowFrame, List.sum_append, List.sum_singleton]
    _ = 0 := add_neg_cancel _

/-- The length byte, the three bytes of the header and the check byte stand around the content. -/
theorem rowFrame_length (r : Row) : (rowFrame r).length = 5 + (contentBytes r.content).length := by
  simp only [rowFrame, frameBody, rowHeader, List.length_append, List.length_cons, List.length_nil]
  omega

theorem rowFrame_head? (r : Row) : (rowFrame r).head? = some (byteOf (rowFrame r).length) := by
  rw [rowFrame_length]
  rfl

@[simp] theorem countedText_length (t : List Byte) : (countedText t).length = t.length + 1 := rfl

@[simp] theorem optMinuteBytes_length (m : Option Nat) : (optMinuteBytes m).length = 2 := by
  cases m <;> rfl

theorem recordFrameBytes_length (q : RecordRow) : (recordFrameBytes q).length =
    12 + q.destinationText.length + (q.viaText.getD []).length + q.body.attributes.length := by
  have hkey : (twoBytes q.body.key).length = 2 := rfl
  have htime : (twoBytes q.body.scheduled).length = 2 := rfl
  simp only [recordFrameBytes, List.length_append, List.length_cons, List.length_nil, List.length_map,
    countedText_length, optMinuteBytes_length, hkey, htime]
  omega

/-! ## The levels of the FRAME line (R113) -/

theorem byteLevels_start (b : Byte) : (byteLevels b)[0]? = some false := rfl

theorem byteLevels_stop (b : Byte) : (byteLevels b)[9]? = some true := rfl

theorem byteLevels_data (b : Byte) {k : Nat} (hk : k < 8) : (byteLevels b)[1 + k]? = some (b.getLsbD k) := by
  have hbits : k < ((List.range 8).map fun n => b.getLsbD n).length := by simpa using hk
  rw [byteLevels, List.cons_append, Nat.add_comm, List.getElem?_cons_succ, List.getElem?_append_left hbits]
  simp [hk]

/-- The line has the level of bit time `k` of byte `n` in that bit time. -/
theorem frameLevel_byte {l : Link} {n k : Nat} {b : Byte} {level : Bool} (h : l.frame[n]? = some b) (hk : k < 10)
    (hlevel : (byteLevels b)[k]? = some level) : l.frameLevel (10 * n + k) = level := by
  rw [Link.frameLevel, List.getD_eq_getElem?_getD, frameLevels_byte l.frame h hk, hlevel, Option.getD_some]

theorem frameLevel_rest {l : Link} {n : Nat} (h : 10 * l.frame.length ≤ n) : l.frameLevel n = true :=
  List.getD_eq_default _ _ ((frameLevels_length l.frame).le.trans h)

/-! ## The obligation -/

/-- Settles O47: the frame's sum and its length by the kind of the row, and the line's level in each bit time. -/
theorem framesCarryTheirLengthAndCheck : Obligations.FramesCarryTheirLengthAndCheck := by
  refine ⟨fun r => ⟨byteSum_rowFrame r, fun _ => rowFrame_head? r, ?blank, ?notice, ?record⟩,
    fun l n b hb => ⟨?start, ?data, ?stop⟩, fun l n h => frameLevel_rest h⟩
  case blank =>
    intro hc
    rw [rowFrame_length, hc]
    rfl
  case notice =>
    intro text hc
    rw [rowFrame_length, hc, contentBytes, countedText_length]
    omega
  case record =>
    intro q hc
    rw [rowFrame_length, hc, contentBytes, recordFrameBytes_length]
    omega
  case start => exact frameLevel_byte hb (by omega) (byteLevels_start b)
  case data =>
    intro k hk
    rw [Nat.add_assoc]
    exact frameLevel_byte hb (by omega) (byteLevels_data b hk)
  case stop => exact frameLevel_byte hb (by omega) (byteLevels_stop b)

end Sys2Proof.Proofs.RowFrames
